-- ==== Sys2Proof/Word.lean ====
section
/-! DEFINITION. Word types and the small fixed-size collections of the model. -/

namespace Sys2Proof

/-- A memory cell or bus byte (20_memory.md R60). -/
abbrev Byte := BitVec 8
/-- A half-word operand or a Q2.14 value (30_encoding.md R91, 00_scope.md R10). -/
abbrev W16 := BitVec 16
/-- A register value (10_state.md R21). -/
abbrev W32 := BitVec 32
/-- A command or response word (30_encoding.md R90). -/
abbrev W64 := BitVec 64

/-- Two like things, indexed as the spec numbers them: LEFT 0, RIGHT 1 (00_scope.md R5). -/
structure Pair (α : Type) where
  left : α
  right : α
deriving DecidableEq, Repr, Inhabited

namespace Pair
variable {α : Type}

def get (p : Pair α) (m : Fin 2) : α :=
  match m with
  | 0 => p.left
  | 1 => p.right

def set (p : Pair α) (m : Fin 2) (v : α) : Pair α :=
  match m with
  | 0 => { p with left := v }
  | 1 => { p with right := v }

/-- The same value twice. -/
def all (v : α) : Pair α := ⟨v, v⟩

end Pair

/-- Four like things, indexed 0 to 3: buttons A, B, X, Y or subscriber slots (00_scope.md R5). -/
structure Quad (α : Type) where
  c0 : α
  c1 : α
  c2 : α
  c3 : α
deriving DecidableEq, Repr, Inhabited

namespace Quad
variable {α β : Type}

def get (q : Quad α) (i : Fin 4) : α :=
  match i with
  | 0 => q.c0
  | 1 => q.c1
  | 2 => q.c2
  | 3 => q.c3

def set (q : Quad α) (i : Fin 4) (v : α) : Quad α :=
  match i with
  | 0 => { q with c0 := v }
  | 1 => { q with c1 := v }
  | 2 => { q with c2 := v }
  | 3 => { q with c3 := v }

/-- The same value four times. -/
def all (v : α) : Quad α := ⟨v, v, v, v⟩

def map (f : α → β) (q : Quad α) : Quad β := ⟨f q.c0, f q.c1, f q.c2, f q.c3⟩

end Quad
end Sys2Proof
end

