-- ==== Sys2Proof/Syntax.lean ====
section
/-! DEFINITION. The 47 commands with their operand fields (30_encoding.md R92, R95), and the names
of the registers (10_state.md R22).

An operand has exactly the bits its format gives it, so a must-be-zero bit cannot be set in a term;
a word that sets one is refused by the decoder (30_encoding.md R96 (b)). -/

namespace Sys2Proof

/-- The commands, in the order of 30_encoding.md R95. `motor`, `button`, `slot` and `light` are the
4-bit selector A, `show` is B[0], the other names are those of R92. -/
inductive Instr where
  | nop
  | rd (reg : W16)
  | wr (reg : W16) (value : W32)
  | srst
  | mset (motor : BitVec 4) (speed : W16)
  | mboth (speed : W16)
  | mdis
  | mfwd (speed : W16)
  | mbwd (speed : W16)
  | mtl (speed : W16)
  | mtr (speed : W16)
  | mcfl (speed : W16)
  | mcfr (speed : W16)
  | mcbl (speed : W16)
  | mcbr (speed : W16)
  | mstop
  | mcoast
  | bled (button : BitVec 4) (intensity : W16)
  | bledb (button : BitVec 4) (on : Bool)
  | bledall (intensity : W16)
  | bledallb (on : Bool)
  | bhold (button : BitVec 4)
  | bsub (slot : BitVec 4) (mask : BitVec 12)
  | bunsub (slot : BitVec 4) (mask : BitVec 12)
  | back (slot : BitVec 4) (mask : BitVec 12)
  | bblink (interval : W32)
  | snen
  | sndis
  | snrst
  | snmask (mask : BitVec 18)
  | snupd
  | snout (len : W16)
  | snoutr (len : W16)
  | stw (idx : W16) (byte : Byte)
  | str (idx : W16)
  | uinit
  | ufini
  | uset (light : BitVec 4) (showNow : Bool) (r g b : W16)
  | ufill (showNow : Bool) (r g b : W16)
  | uclr (light : BitVec 4) (showNow : Bool)
  | uclrall (showNow : Bool)
  | ushow
  | uhsv (light : BitVec 4) (showNow : Bool) (h s v : W16)
  | ufillhsv (showNow : Bool) (h s v : W16)
  | urd (n : BitVec 8)
  | ucancel
  | uget
deriving DecidableEq, Repr

/-- The registers of 10_state.md R22, an array element by its index. -/
inductive Reg where
  | id
  | cmdseq
  | now
  | status
  | lasterr
  | errseq
  | errcmdHi
  | errcmdLo
  | errinfo
  | speed (m : Fin 2)
  | dutyP (m : Fin 2)
  | dutyN (m : Fin 2)
  | btnEn
  | btnDebounce
  | btnDpwin
  | btnHoldmin
  | ledDuty (b : Fin 4)
  | blinkTimer
  | btnState (b : Fin 4)
  | lastpress (b : Fin 4)
  | dptimer (b : Fin 4)
  | holdcnt (b : Fin 4)
  | dbcnt (b : Fin 4)
  | submask (s : Fin 4)
  | pend (s : Fin 4)
  | evcnt (b : Fin 4) (k : Fin 3)
  | usOffset
  | usSampleTo
  | usOverall
  | usGap
  | usState
  | usDist
  | usTotal
  | usCnt
  | usReq
  | usIdx
  | usStopw
  | usScnt
  | usOcnt
  | usCtr
  | frame (i : Fin 18)
  | gamma (i : Fin 256)
deriving DecidableEq, Repr

/-- The registers marked RW in 10_state.md R22, the eight that WR writes. -/
inductive Tunable where
  | btnEn
  | btnDebounce
  | btnDpwin
  | btnHoldmin
  | usOffset
  | usSampleTo
  | usOverall
  | usGap
deriving DecidableEq, Repr

end Sys2Proof
end

