-- ==== Sys2Proof/Decode.lean ====
section
/-! DEFINITION. Decoding and encoding of command words (30_encoding.md R90 to R97): the field cut,
the formats with their must-be-zero bits, the decoder, the encoder, the opcode table of
spec/opcode_table.json, and the numbers of the registers (10_state.md R22). -/

namespace Sys2Proof

/-- The field cut of a command word (30_encoding.md R91). -/
structure Fields where
  opc : BitVec 8
  a : BitVec 4
  b : BitVec 4
  h2 : W16
  h1 : W16
  h0 : W16
deriving DecidableEq, Repr

/-- Cut a command word into its fields (30_encoding.md R91). -/
def fieldsOf (cw : W64) : Fields where
  opc := cw.extractLsb' 56 8
  a := cw.extractLsb' 52 4
  b := cw.extractLsb' 48 4
  h2 := cw.extractLsb' 32 16
  h1 := cw.extractLsb' 16 16
  h0 := cw.extractLsb' 0 16

/-- The command word with the given fields, `opc : a : b : h2 : h1 : h0` (30_encoding.md R91). -/
def pack (opc : BitVec 8) (a b : BitVec 4) (h2 h1 h0 : W16) : W64 :=
  opc ++ a ++ b ++ h2 ++ h1 ++ h0

/-- W[31:16] and W[15:0], the half-words of the word operand `W = H1:H0` (30_encoding.md R91). -/
def hi16 (w : W32) : W16 := w.extractLsb' 16 16
def lo16 (w : W32) : W16 := w.extractLsb' 0 16
/-- The word operand `W = H1:H0` (30_encoding.md R91). -/
def wordOf (h1 h0 : W16) : W32 := h1 ++ h0
/-- A field that holds one operand bit in bit 0, the rest zero: H0[0] and B[0] (30_encoding.md R92). -/
def halfOfBit (on : Bool) : W16 := (BitVec.ofBool on).setWidth 16
def flagsOfShow (sh : Bool) : BitVec 4 := (BitVec.ofBool sh).setWidth 4

/-- Why a word is no command; both answer InvalidCommand with info OPC (30_encoding.md R96). -/
inductive DecodeError where
  /-- R96 (a): the opcode is not in the opcode map. -/
  | unknownOpcode (opc : BitVec 8)
  /-- R96 (b): a bit that the format gives to no operand is one. -/
  | reservedBits (opc : BitVec 8)
deriving DecidableEq, Repr

/-- The opcode an illegal word is reported with (30_encoding.md R96). -/
def decodeErrorOpcode (e : DecodeError) : BitVec 8 :=
  match e with
  | .unknownOpcode opc => opc
  | .reservedBits opc => opc

/-- `i` if the must-be-zero bits of the format are zero (30_encoding.md R92, R96 (b)). -/
def legalIf (f : Fields) (zero : Bool) (i : Instr) : Except DecodeError Instr :=
  if zero then .ok i else .error (.reservedBits f.opc)

-- One definition per format of 30_encoding.md R92: which fields must be zero, and the operands.
def fmtZ (f : Fields) (i : Instr) :=
  legalIf f (f.a == 0 && f.b == 0 && f.h2 == 0 && f.h1 == 0 && f.h0 == 0) i
def fmtS (f : Fields) (k : W16 → Instr) :=
  legalIf f (f.a == 0 && f.b == 0 && f.h2 == 0 && f.h1 == 0) (k f.h0)
def fmtAS (f : Fields) (k : BitVec 4 → W16 → Instr) :=
  legalIf f (f.b == 0 && f.h2 == 0 && f.h1 == 0) (k f.a f.h0)
def fmtA0 (f : Fields) (k : BitVec 4 → Instr) :=
  legalIf f (f.b == 0 && f.h2 == 0 && f.h1 == 0 && f.h0 == 0) (k f.a)
def fmtAB (f : Fields) (k : BitVec 4 → Bool → Instr) :=
  legalIf f (f.b == 0 && f.h2 == 0 && f.h1 == 0 && f.h0.extractLsb' 1 15 == 0)
    (k f.a (f.h0.getLsbD 0))
def fmtB1 (f : Fields) (k : Bool → Instr) :=
  legalIf f (f.a == 0 && f.b == 0 && f.h2 == 0 && f.h1 == 0 && f.h0.extractLsb' 1 15 == 0)
    (k (f.h0.getLsbD 0))
def fmtAM (f : Fields) (k : BitVec 4 → BitVec 12 → Instr) :=
  legalIf f (f.b == 0 && f.h2 == 0 && f.h1 == 0 && f.h0.extractLsb' 12 4 == 0)
    (k f.a (f.h0.extractLsb' 0 12))
def fmtW32 (f : Fields) (k : W32 → Instr) :=
  legalIf f (f.a == 0 && f.b == 0 && f.h2 == 0) (k (wordOf f.h1 f.h0))
def fmtM18 (f : Fields) (k : BitVec 18 → Instr) :=
  legalIf f (f.a == 0 && f.b == 0 && f.h2 == 0 && (wordOf f.h1 f.h0).extractLsb' 18 14 == 0)
    (k ((wordOf f.h1 f.h0).extractLsb' 0 18))
def fmtL (f : Fields) (k : W16 → Instr) := fmtS f k
def fmtST (f : Fields) (k : W16 → Byte → Instr) :=
  legalIf f (f.a == 0 && f.b == 0 && f.h2 == 0 && f.h0.extractLsb' 8 8 == 0)
    (k f.h1 (f.h0.extractLsb' 0 8))
def fmtSI (f : Fields) (k : W16 → Instr) :=
  legalIf f (f.a == 0 && f.b == 0 && f.h2 == 0 && f.h0 == 0) (k f.h1)
def fmtRGB (f : Fields) (k : BitVec 4 → Bool → W16 → W16 → W16 → Instr) :=
  legalIf f (f.b.extractLsb' 1 3 == 0) (k f.a (f.b.getLsbD 0) f.h2 f.h1 f.h0)
def fmtFRGB (f : Fields) (k : Bool → W16 → W16 → W16 → Instr) :=
  legalIf f (f.a == 0 && f.b.extractLsb' 1 3 == 0) (k (f.b.getLsbD 0) f.h2 f.h1 f.h0)
def fmtAF (f : Fields) (k : BitVec 4 → Bool → Instr) :=
  legalIf f (f.b.extractLsb' 1 3 == 0 && f.h2 == 0 && f.h1 == 0 && f.h0 == 0)
    (k f.a (f.b.getLsbD 0))
def fmtF (f : Fields) (k : Bool → Instr) :=
  legalIf f (f.a == 0 && f.b.extractLsb' 1 3 == 0 && f.h2 == 0 && f.h1 == 0 && f.h0 == 0)
    (k (f.b.getLsbD 0))
def fmtHSV (f : Fields) (k : BitVec 4 → Bool → W16 → W16 → W16 → Instr) := fmtRGB f k
def fmtFHSV (f : Fields) (k : Bool → W16 → W16 → W16 → Instr) := fmtFRGB f k
def fmtN8 (f : Fields) (k : BitVec 8 → Instr) :=
  legalIf f (f.a == 0 && f.b == 0 && f.h2 == 0 && f.h1 == 0 && f.h0.extractLsb' 8 8 == 0)
    (k (f.h0.extractLsb' 0 8))
def fmtR (f : Fields) (k : W16 → Instr) :=
  legalIf f (f.a == 0 && f.b == 0 && f.h1 == 0 && f.h0 == 0) (k f.h2)
def fmtRW (f : Fields) (k : W16 → W32 → Instr) :=
  legalIf f (f.a == 0 && f.b == 0) (k f.h2 (wordOf f.h1 f.h0))

/-- The opcode map (30_encoding.md R95): the opcode chooses the command and its format, checks 1 and
2 of R97. -/
def decodeFields (f : Fields) : Except DecodeError Instr :=
  match f.opc.toNat with
  | 0x00 => fmtZ f .nop
  | 0x01 => fmtR f .rd
  | 0x02 => fmtRW f .wr
  | 0x03 => fmtZ f .srst
  | 0x10 => fmtAS f .mset
  | 0x11 => fmtS f .mboth
  | 0x12 => fmtZ f .mdis
  | 0x13 => fmtS f .mfwd
  | 0x14 => fmtS f .mbwd
  | 0x15 => fmtS f .mtl
  | 0x16 => fmtS f .mtr
  | 0x17 => fmtS f .mcfl
  | 0x18 => fmtS f .mcfr
  | 0x19 => fmtS f .mcbl
  | 0x1A => fmtS f .mcbr
  | 0x1B => fmtZ f .mstop
  | 0x1C => fmtZ f .mcoast
  | 0x20 => fmtAS f .bled
  | 0x21 => fmtAB f .bledb
  | 0x22 => fmtS f .bledall
  | 0x23 => fmtB1 f .bledallb
  | 0x24 => fmtA0 f .bhold
  | 0x25 => fmtAM f .bsub
  | 0x26 => fmtAM f .bunsub
  | 0x27 => fmtAM f .back
  | 0x28 => fmtW32 f .bblink
  | 0x30 => fmtZ f .snen
  | 0x31 => fmtZ f .sndis
  | 0x32 => fmtZ f .snrst
  | 0x33 => fmtM18 f .snmask
  | 0x34 => fmtZ f .snupd
  | 0x35 => fmtL f .snout
  | 0x36 => fmtL f .snoutr
  | 0x37 => fmtST f .stw
  | 0x38 => fmtSI f .str
  | 0x40 => fmtZ f .uinit
  | 0x41 => fmtZ f .ufini
  | 0x42 => fmtRGB f .uset
  | 0x43 => fmtFRGB f .ufill
  | 0x44 => fmtAF f .uclr
  | 0x45 => fmtF f .uclrall
  | 0x46 => fmtZ f .ushow
  | 0x47 => fmtHSV f .uhsv
  | 0x48 => fmtFHSV f .ufillhsv
  | 0x50 => fmtN8 f .urd
  | 0x51 => fmtZ f .ucancel
  | 0x52 => fmtZ f .uget
  | _ => .error (.unknownOpcode f.opc)

/-- The command a word stands for, or why it is none (30_encoding.md R95 to R97). -/
def decode (cw : W64) : Except DecodeError Instr := decodeFields (fieldsOf cw)

/-- The word of a command (30_encoding.md R91, R92, R95). -/
def encode (i : Instr) : W64 :=
  match i with
  | .nop => pack 0x00 0 0 0 0 0
  | .rd reg => pack 0x01 0 0 reg 0 0
  | .wr reg w => pack 0x02 0 0 reg (hi16 w) (lo16 w)
  | .srst => pack 0x03 0 0 0 0 0
  | .mset a v => pack 0x10 a 0 0 0 v
  | .mboth v => pack 0x11 0 0 0 0 v
  | .mdis => pack 0x12 0 0 0 0 0
  | .mfwd v => pack 0x13 0 0 0 0 v
  | .mbwd v => pack 0x14 0 0 0 0 v
  | .mtl v => pack 0x15 0 0 0 0 v
  | .mtr v => pack 0x16 0 0 0 0 v
  | .mcfl v => pack 0x17 0 0 0 0 v
  | .mcfr v => pack 0x18 0 0 0 0 v
  | .mcbl v => pack 0x19 0 0 0 0 v
  | .mcbr v => pack 0x1A 0 0 0 0 v
  | .mstop => pack 0x1B 0 0 0 0 0
  | .mcoast => pack 0x1C 0 0 0 0 0
  | .bled a v => pack 0x20 a 0 0 0 v
  | .bledb a on => pack 0x21 a 0 0 0 (halfOfBit on)
  | .bledall v => pack 0x22 0 0 0 0 v
  | .bledallb on => pack 0x23 0 0 0 0 (halfOfBit on)
  | .bhold a => pack 0x24 a 0 0 0 0
  | .bsub a mask => pack 0x25 a 0 0 0 (mask.setWidth 16)
  | .bunsub a mask => pack 0x26 a 0 0 0 (mask.setWidth 16)
  | .back a mask => pack 0x27 a 0 0 0 (mask.setWidth 16)
  | .bblink w => pack 0x28 0 0 0 (hi16 w) (lo16 w)
  | .snen => pack 0x30 0 0 0 0 0
  | .sndis => pack 0x31 0 0 0 0 0
  | .snrst => pack 0x32 0 0 0 0 0
  | .snmask mask => pack 0x33 0 0 0 (hi16 (mask.setWidth 32)) (lo16 (mask.setWidth 32))
  | .snupd => pack 0x34 0 0 0 0 0
  | .snout len => pack 0x35 0 0 0 0 len
  | .snoutr len => pack 0x36 0 0 0 0 len
  | .stw idx byte => pack 0x37 0 0 0 idx (byte.setWidth 16)
  | .str idx => pack 0x38 0 0 0 idx 0
  | .uinit => pack 0x40 0 0 0 0 0
  | .ufini => pack 0x41 0 0 0 0 0
  | .uset a sh x y z => pack 0x42 a (flagsOfShow sh) x y z
  | .ufill sh x y z => pack 0x43 0 (flagsOfShow sh) x y z
  | .uclr a sh => pack 0x44 a (flagsOfShow sh) 0 0 0
  | .uclrall sh => pack 0x45 0 (flagsOfShow sh) 0 0 0
  | .ushow => pack 0x46 0 0 0 0 0
  | .uhsv a sh x y z => pack 0x47 a (flagsOfShow sh) x y z
  | .ufillhsv sh x y z => pack 0x48 0 (flagsOfShow sh) x y z
  | .urd n => pack 0x50 0 0 0 0 (n.setWidth 16)
  | .ucancel => pack 0x51 0 0 0 0 0
  | .uget => pack 0x52 0 0 0 0 0

/-- The command the decoder reads from a word given as a number of `nbits` bits. -/
def decodeTableWord (nbits w : Nat) : Option Instr :=
  match decode (BitVec.ofNat 64 (w % 2 ^ nbits)) with
  | .ok i => some i
  | .error _ => none

/-- One row of spec/opcode_table.json: a word `cw` is the row's command exactly when
`cw & mask = pattern` (30_encoding.md R95). -/
structure OpcodeRow where
  pattern : W64
  mask : W64
deriving DecidableEq, Repr

/-- A word is the row's command (30_encoding.md R95). -/
def rowMatches (row : OpcodeRow) (cw : W64) : Bool := cw &&& row.mask == row.pattern

def opcodeRows0 : List OpcodeRow := [
  ⟨0x0000000000000000, 0xFFFFFFFFFFFFFFFF⟩,
  ⟨0x0100000000000000, 0xFFFF0000FFFFFFFF⟩,
  ⟨0x0200000000000000, 0xFFFF000000000000⟩,
  ⟨0x0300000000000000, 0xFFFFFFFFFFFFFFFF⟩,
  ⟨0x1000000000000000, 0xFF0FFFFFFFFF0000⟩,
  ⟨0x1100000000000000, 0xFFFFFFFFFFFF0000⟩,
  ⟨0x1200000000000000, 0xFFFFFFFFFFFFFFFF⟩,
  ⟨0x1300000000000000, 0xFFFFFFFFFFFF0000⟩,
  ⟨0x1400000000000000, 0xFFFFFFFFFFFF0000⟩,
  ⟨0x1500000000000000, 0xFFFFFFFFFFFF0000⟩,
  ⟨0x1600000000000000, 0xFFFFFFFFFFFF0000⟩,
  ⟨0x1700000000000000, 0xFFFFFFFFFFFF0000⟩]

def opcodeRows1 : List OpcodeRow := [
  ⟨0x1800000000000000, 0xFFFFFFFFFFFF0000⟩,
  ⟨0x1900000000000000, 0xFFFFFFFFFFFF0000⟩,
  ⟨0x1A00000000000000, 0xFFFFFFFFFFFF0000⟩,
  ⟨0x1B00000000000000, 0xFFFFFFFFFFFFFFFF⟩,
  ⟨0x1C00000000000000, 0xFFFFFFFFFFFFFFFF⟩,
  ⟨0x2000000000000000, 0xFF0FFFFFFFFF0000⟩,
  ⟨0x2100000000000000, 0xFF0FFFFFFFFFFFFE⟩,
  ⟨0x2200000000000000, 0xFFFFFFFFFFFF0000⟩,
  ⟨0x2300000000000000, 0xFFFFFFFFFFFFFFFE⟩,
  ⟨0x2400000000000000, 0xFF0FFFFFFFFFFFFF⟩,
  ⟨0x2500000000000000, 0xFF0FFFFFFFFFF000⟩,
  ⟨0x2600000000000000, 0xFF0FFFFFFFFFF000⟩]

def opcodeRows2 : List OpcodeRow := [
  ⟨0x2700000000000000, 0xFF0FFFFFFFFFF000⟩,
  ⟨0x2800000000000000, 0xFFFFFFFF00000000⟩,
  ⟨0x3000000000000000, 0xFFFFFFFFFFFFFFFF⟩,
  ⟨0x3100000000000000, 0xFFFFFFFFFFFFFFFF⟩,
  ⟨0x3200000000000000, 0xFFFFFFFFFFFFFFFF⟩,
  ⟨0x3300000000000000, 0xFFFFFFFFFFFC0000⟩,
  ⟨0x3400000000000000, 0xFFFFFFFFFFFFFFFF⟩,
  ⟨0x3500000000000000, 0xFFFFFFFFFFFF0000⟩,
  ⟨0x3600000000000000, 0xFFFFFFFFFFFF0000⟩,
  ⟨0x3700000000000000, 0xFFFFFFFF0000FF00⟩,
  ⟨0x3800000000000000, 0xFFFFFFFF0000FFFF⟩,
  ⟨0x4000000000000000, 0xFFFFFFFFFFFFFFFF⟩]

def opcodeRows3 : List OpcodeRow := [
  ⟨0x4100000000000000, 0xFFFFFFFFFFFFFFFF⟩,
  ⟨0x4200000000000000, 0xFF0E000000000000⟩,
  ⟨0x4300000000000000, 0xFFFE000000000000⟩,
  ⟨0x4400000000000000, 0xFF0EFFFFFFFFFFFF⟩,
  ⟨0x4500000000000000, 0xFFFEFFFFFFFFFFFF⟩,
  ⟨0x4600000000000000, 0xFFFFFFFFFFFFFFFF⟩,
  ⟨0x4700000000000000, 0xFF0E000000000000⟩,
  ⟨0x4800000000000000, 0xFFFE000000000000⟩,
  ⟨0x5000000000000000, 0xFFFFFFFFFFFFFF00⟩,
  ⟨0x5100000000000000, 0xFFFFFFFFFFFFFFFF⟩,
  ⟨0x5200000000000000, 0xFFFFFFFFFFFFFFFF⟩]

/-- The 47 rows of spec/opcode_table.json, in its order (30_encoding.md R95). -/
def opcodeTable : List OpcodeRow := opcodeRows0 ++ opcodeRows1 ++ opcodeRows2 ++ opcodeRows3

/-- The register with number `n` if it is one of the `count` registers from `lo` on. -/
def regRun (lo count : Nat) (reg : Fin count → Reg) (n : Nat) : Option Reg :=
  if h : lo ≤ n ∧ n < lo + count then some (reg ⟨n - lo, by omega⟩) else none

/-- EVCNT[b][k] stands at `0x060 + 3b + k` (10_state.md R22). -/
def evcntReg (e : Fin 12) : Reg :=
  .evcnt ⟨e.val / 3, by omega⟩ ⟨e.val % 3, by omega⟩

/-- DUTY_P[m], DUTY_N[m] stand at `0x012 + 2m` and `0x013 + 2m` (10_state.md R22). -/
def dutyReg (i : Fin 4) : Reg :=
  if i.val % 2 = 0 then .dutyP ⟨i.val / 2, by omega⟩ else .dutyN ⟨i.val / 2, by omega⟩

/-- The register with a given number, none for a number outside the map (10_state.md R21, R22). -/
def regOfNumber (number : W16) : Option Reg :=
  match number.toNat with
  | 0x000 => some .id
  | 0x001 => some .cmdseq
  | 0x002 => some .now
  | 0x003 => some .status
  | 0x004 => some .lasterr
  | 0x005 => some .errseq
  | 0x006 => some .errcmdHi
  | 0x007 => some .errcmdLo
  | 0x008 => some .errinfo
  | 0x020 => some .btnEn
  | 0x021 => some .btnDebounce
  | 0x022 => some .btnDpwin
  | 0x023 => some .btnHoldmin
  | 0x028 => some .blinkTimer
  | 0x080 => some .usOffset
  | 0x081 => some .usSampleTo
  | 0x082 => some .usOverall
  | 0x083 => some .usGap
  | 0x088 => some .usState
  | 0x089 => some .usDist
  | 0x08A => some .usTotal
  | 0x08B => some .usCnt
  | 0x08C => some .usReq
  | 0x08D => some .usIdx
  | 0x08E => some .usStopw
  | 0x08F => some .usScnt
  | 0x090 => some .usOcnt
  | 0x091 => some .usCtr
  | n =>
    [regRun 0x010 2 .speed n, regRun 0x012 4 dutyReg n, regRun 0x024 4 .ledDuty n,
     regRun 0x030 4 .btnState n, regRun 0x034 4 .lastpress n, regRun 0x038 4 .dptimer n,
     regRun 0x03C 4 .holdcnt n, regRun 0x040 4 .dbcnt n, regRun 0x050 4 .submask n,
     regRun 0x054 4 .pend n, regRun 0x060 12 evcntReg n, regRun 0x0A0 18 .frame n,
     regRun 0x100 256 .gamma n].findSome? id

/-- The number of a register (10_state.md R22). -/
def numberOfReg (r : Reg) : W16 :=
  match r with
  | .id => 0x000
  | .cmdseq => 0x001
  | .now => 0x002
  | .status => 0x003
  | .lasterr => 0x004
  | .errseq => 0x005
  | .errcmdHi => 0x006
  | .errcmdLo => 0x007
  | .errinfo => 0x008
  | .speed m => BitVec.ofNat 16 (0x010 + m)
  | .dutyP m => BitVec.ofNat 16 (0x012 + 2 * m)
  | .dutyN m => BitVec.ofNat 16 (0x013 + 2 * m)
  | .btnEn => 0x020
  | .btnDebounce => 0x021
  | .btnDpwin => 0x022
  | .btnHoldmin => 0x023
  | .ledDuty b => BitVec.ofNat 16 (0x024 + b)
  | .blinkTimer => 0x028
  | .btnState b => BitVec.ofNat 16 (0x030 + b)
  | .lastpress b => BitVec.ofNat 16 (0x034 + b)
  | .dptimer b => BitVec.ofNat 16 (0x038 + b)
  | .holdcnt b => BitVec.ofNat 16 (0x03C + b)
  | .dbcnt b => BitVec.ofNat 16 (0x040 + b)
  | .submask s => BitVec.ofNat 16 (0x050 + s)
  | .pend s => BitVec.ofNat 16 (0x054 + s)
  | .evcnt b k => BitVec.ofNat 16 (0x060 + 3 * b + k)
  | .usOffset => 0x080
  | .usSampleTo => 0x081
  | .usOverall => 0x082
  | .usGap => 0x083
  | .usState => 0x088
  | .usDist => 0x089
  | .usTotal => 0x08A
  | .usCnt => 0x08B
  | .usReq => 0x08C
  | .usIdx => 0x08D
  | .usStopw => 0x08E
  | .usScnt => 0x08F
  | .usOcnt => 0x090
  | .usCtr => 0x091
  | .frame i => BitVec.ofNat 16 (0x0A0 + i)
  | .gamma i => BitVec.ofNat 16 (0x100 + i)

/-- The writable register with a given number, none for any other (10_state.md R22,
45_system.md R302). -/
def tunableOfNumber (number : W16) : Option Tunable :=
  match number.toNat with
  | 0x020 => some .btnEn
  | 0x021 => some .btnDebounce
  | 0x022 => some .btnDpwin
  | 0x023 => some .btnHoldmin
  | 0x080 => some .usOffset
  | 0x081 => some .usSampleTo
  | 0x082 => some .usOverall
  | 0x083 => some .usGap
  | _ => none

end Sys2Proof
end

