-- ==== Sys2Proof/Config.lean ====
section
/-! DEFINITION. What an implementation fixes (the table of 00_scope.md R5), and the environment's choices, the model's only free values. -/

namespace Sys2Proof

/-- ONE, the Q2.14 encoding of 1.0 (00_scope.md R5, R10). -/
def ONE : Nat := 16384
/-- N_CHANNEL and the size of FRAME (00_scope.md R5, 20_memory.md R61). -/
def nChannel : Nat := 18
/-- The constant register ID (10_state.md R23). -/
def idValue : W32 := 0x54504301

/-- The rows of 00_scope.md R5 whose value the other rules build into their own form: the words of
30_encoding.md R90 and R94, the Q2.14 format of R10, the two motors of 40_motor.md R125, the four
buttons and three kinds of the 12-bit event vectors (10_state.md R35), the six lights and 18
channels of the frame (20_memory.md R61). -/
structure Config.Shape where
  /-- CMD_BITS -/
  cmdBits : Nat
  /-- RSP_BITS -/
  rspBits : Nat
  /-- FRAC -/
  frac : Nat
  /-- N_MOTOR -/
  nMotor : Nat
  /-- N_BUTTON -/
  nButton : Nat
  /-- N_LIGHT -/
  nLight : Nat
  /-- N_CHANNEL -/
  nChannel : Nat
  /-- N_KIND -/
  nKind : Nat
deriving DecidableEq, Repr

/-- The values of R5 for those rows, the only ones the rules can be read with (log 6). -/
def Config.Shape.ofRules : Config.Shape where
  cmdBits := 64
  rspBits := 64
  frac := 14
  nMotor := 2
  nButton := 4
  nLight := 6
  nChannel := 18
  nKind := 3

/-- The configuration record: the whole table of 00_scope.md R5, row by row. It stands in the state
as a field no rule writes, so that a statement about every state is one about every parameter value
(log 4). -/
structure Config where
  /-- the rows the form of the rules fixes -/
  shape : Config.Shape
  /-- TICK_HZ -/
  tickHz : Nat
  /-- N_SUB -/
  nSub : Nat
  /-- STAGE_SIZE -/
  stageSize : Nat
  /-- I2C_ADDR -/
  i2cAddr : Byte
  /-- CMD_ENABLE -/
  cmdEnable : Byte
  /-- CMD_SETVAL -/
  cmdSetval : Byte
  /-- CMD_LEDS -/
  cmdLeds : Byte
  /-- CMD_UPDATE -/
  cmdUpdate : Byte
  /-- CMD_RESET -/
  cmdReset : Byte
  /-- EN_DATA -/
  enData : Byte
  /-- DIS_DATA -/
  disData : Byte
  /-- UPD_DATA -/
  updData : Byte
  /-- RST_DATA -/
  rstData : Byte
  /-- BRAKE_NEG_DUTY -/
  brakeNegDuty : W16
  /-- DPWIN_DEFAULT -/
  dpwinDefault : W32
  /-- HOLDMIN_DEFAULT -/
  holdminDefault : W32
  /-- DEBOUNCE_DEFAULT -/
  debounceDefault : W32
  /-- TRIG_TICKS, at least 1 (44_ultrasound.md R267) -/
  trigTicks : W32
  /-- US_OFFSET_DEFAULT -/
  usOffsetDefault : W32
  /-- US_SAMPLE_TO_DEFAULT -/
  usSampleToDefault : W32
  /-- US_OVERALL_DEFAULT -/
  usOverallDefault : W32
  /-- US_GAP_DEFAULT -/
  usGapDefault : W32
  /-- US_SAMPLES_DEFAULT -/
  usSamplesDefault : BitVec 8
  /-- SOS_NUM -/
  sosNum : Nat
  /-- SOS_DEN -/
  sosDen : Nat
  /-- LEAF_CAN_FAIL -/
  leafCanFail : Bool
deriving DecidableEq, Repr

/-- The default of every parameter (00_scope.md R5). -/
def Config.standard : Config where
  shape := Config.Shape.ofRules
  tickHz := 1000000
  nSub := 4
  stageSize := 32
  i2cAddr := 0x54
  cmdEnable := 0x00
  cmdSetval := 0x01
  cmdLeds := 0x13
  cmdUpdate := 0x16
  cmdReset := 0x17
  enData := 0x01
  disData := 0x00
  updData := 0xFF
  rstData := 0xFF
  brakeNegDuty := 0
  dpwinDefault := 1000000
  holdminDefault := 1000000
  debounceDefault := 10000
  trigTicks := 10
  usOffsetDefault := 190
  usSampleToDefault := 100000
  usOverallDefault := 0
  usGapDefault := 0
  usSamplesDefault := 3
  sosNum := 343
  sosDen := 10
  leafCanFail := false

/-- The parameters have a meaning: the shape is that of the rules, the divisors are not zero, the
trigger pulse is at least one tick (44_ultrasound.md R267), the duty at speed 0 is a duty
(00_scope.md R10), and the stage holds the 18 bytes that SNOUT sends (42_sn3218.md R207). -/
abbrev Config.Legal (c : Config) : Prop :=
  c.shape = Config.Shape.ofRules ∧ 0 < c.tickHz ∧ 0 < c.sosDen ∧ 0 < c.trigTicks.toNat ∧
  c.brakeNegDuty.toNat ≤ ONE ∧ nChannel ≤ c.stageSize

/-- The inputs sampled at one tick: `btn_in[b]` (true is 1, the button is up) and `echo_in`
(41_button.md R150, 44_ultrasound.md R260). -/
structure Sample where
  btn : Quad Bool
  echo : Bool
deriving DecidableEq, Repr, Inhabited

/-- What the environment does next: a tick with its samples, a command word, or a pulse of the
reset pin (00_scope.md R7, 70_reset_and_hazards.md R360). -/
inductive Input where
  | tick (sample : Sample)
  | command (cw : W64)
  | rst
deriving DecidableEq, Repr, Inhabited

/-- The environment's answer to a leaf operation (00_scope.md R9). -/
inductive Answer where
  | ok
  | fail
deriving DecidableEq, Repr, Inhabited

/-- FREE VALUE: the environment's n-th input beyond those the state lists (log 1). -/
opaque Config.freeInput : Nat → Input

/-- FREE VALUE: the environment's answer to leaf operation n where the state lists none (log 2). -/
opaque Config.freeAnswer : Nat → Answer

end Sys2Proof
end

