-- ==== Sys2Proof/Machine/State.lean ====
section
/-! DEFINITION. The state of TPC as plain data (10_state.md, 20_memory.md), its value after reset
(10_state.md R44), and the reasons a step can stop. -/

namespace Sys2Proof.Machine

/-- The status codes by name (60_exceptions.md R320). -/
inductive Status where
  | ok
  | invalidInput
  | transportFailure
  | sensorTimeout
  | invalidCommand
  | busy
  | notOpen
  | alreadyOpen
  | fatal
  | cancelled
  | noResult
deriving DecidableEq, Repr

/-- GST[b], the gesture state of a button channel (10_state.md R32). -/
inductive Gesture where
  | idle
  | pressed
  | double
  | hold
deriving DecidableEq, Repr

/-- HOLDSUB[b], the hold sub-state (10_state.md R32). -/
inductive HoldSub where
  | none
  | started
  | completed
  | canceled
deriving DecidableEq, Repr

/-- The event kinds PRESS, DOUBLE and HOLD (00_scope.md R5). -/
inductive EventKind where
  | press
  | double
  | hold
deriving DecidableEq, Repr

/-- US_ST, the state of the ultrasound engine (10_state.md R39). -/
inductive UsState where
  | idle
  | gap
  | trig
  | waitRise
  | waitFall
deriving DecidableEq, Repr

/-- US_RES, the result of the last finished read (10_state.md R41). -/
inductive UsResult where
  | none
  | ok
  | timeout
  | cancelled
  | transport
deriving DecidableEq, Repr

/-- One entry of I2C_TRACE (20_memory.md R66). -/
structure BusWrite where
  address : Byte
  bytes : List Byte
  answer : Answer
deriving DecidableEq, Repr

/-- A byte memory: the cells that differ from what an unlisted cell reads as, addresses strictly
rising (`Memory.Wf`). -/
abbrev Memory := List Host.Cell

/-- What an unlisted cell of FRAME or STAGE reads as: the reset contents, 0 (10_state.md R44;
log 15). -/
def unlistedByte : Byte := 0

/-- The canonical form of a memory of `size` cells: addresses strictly rising and inside the
memory, no entry equal to what an unlisted cell reads as. -/
abbrev Memory.Wf (size : Nat) (m : Memory) : Prop :=
  m.Pairwise (fun x y => x.1 < y.1) ∧ ∀ c ∈ m, c.1 < size ∧ c.2 ≠ unlistedByte

/-- The error record and FATAL (10_state.md R30, R42). `errcmd` is ERRCMD_HI:ERRCMD_LO. -/
structure ErrorRecord where
  lasterr : Status
  errseq : W32
  errcmd : W64
  errinfo : W32
  fatal : Bool
deriving DecidableEq, Repr

/-- SPEED[m], DUTY_P[m], DUTY_N[m] of one motor (10_state.md R26, R27). -/
structure Motor where
  speed : W16
  dutyP : W16
  dutyN : W16
deriving DecidableEq, Repr

/-- BTN_DEBOUNCE, BTN_DPWIN, BTN_HOLDMIN (10_state.md R31). -/
structure ButtonTunables where
  debounce : W32
  dpwin : W32
  holdmin : W32
deriving DecidableEq, Repr

/-- The per-button registers of 10_state.md R32. `level` true is LEVEL 1, the button is up. -/
structure Channel where
  level : Bool
  dbcnt : W32
  gst : Gesture
  holdsub : HoldSub
  holding : Bool
  holdcnt : W32
  dparmed : Bool
  dptimer : W32
  lastpress : W32
deriving DecidableEq, Repr

/-- EVCNT[b][0..2] of one button (10_state.md R36). -/
structure EventCounts where
  press : W32
  double : W32
  hold : W32
deriving DecidableEq, Repr

/-- SUBMASK[s] and PEND[s] of one subscriber slot (10_state.md R35). -/
structure Subscriber where
  mask : BitVec 12
  pend : BitVec 12
deriving DecidableEq, Repr

/-- US_OFFSET, US_SAMPLE_TO, US_OVERALL, US_GAP (10_state.md R38). -/
structure UsTunables where
  offset : W32
  sampleTo : W32
  overall : W32
  gap : W32
deriving DecidableEq, Repr

/-- The ultrasound engine's registers but for the tunables and TRIG (10_state.md R39, R41). -/
structure Engine where
  st : UsState
  req : BitVec 8
  idx : BitVec 8
  ctr : W32
  scnt : W32
  stopw : W32
  ocnt : W32
  eprev : Bool
  total : W32
  cnt : BitVec 8
  res : UsResult
  dist : W32
  done : Bool
deriving DecidableEq, Repr

/-- The MODEL's own record of the environment (log 1, log 2, log 5): `pending` are inputs already
chosen, oldest first, and `drawn` counts those drawn from the free value once the list is used up;
`answers` are leaf answers already chosen, by index, and `asked` counts the leaf operations asked;
`responses` are the response words returned so far, oldest first. -/
structure Env where
  pending : List Input
  drawn : Nat
  answers : List Answer
  asked : Nat
  responses : List W64
deriving DecidableEq, Repr

/-- The state of TPC. -/
structure State where
  /-- the parameters (00_scope.md R5), written by no rule -/
  cfg : Config
  /-- the environment, the model's own -/
  env : Env
  /-- CMDSEQ (10_state.md R24) -/
  cmdseq : W32
  /-- NOW (10_state.md R25) -/
  now : W32
  /-- LASTERR, ERRSEQ, ERRCMD, ERRINFO, FATAL (10_state.md R30, R42) -/
  err : ErrorRecord
  /-- the two motors (10_state.md R26, R27) -/
  motors : Pair Motor
  /-- MOTOR_EN (10_state.md R28) -/
  motorEn : Bool
  /-- BTN_EN (10_state.md R31) -/
  btnEn : Bool
  /-- the button tunables (10_state.md R31) -/
  btnTune : ButtonTunables
  /-- the button channels A, B, X, Y (10_state.md R32) -/
  channels : Quad Channel
  /-- LED_DUTY[0..3] (10_state.md R33) -/
  ledDuty : Quad W16
  /-- BLINK_ACTIVE (10_state.md R34) -/
  blinkActive : Bool
  /-- BLINK_TIMER (10_state.md R34) -/
  blinkTimer : W32
  /-- the N_SUB subscriber slots, by number (10_state.md R35) -/
  subs : List Subscriber
  /-- EVCNT, by button (10_state.md R36) -/
  evcnt : Quad EventCounts
  /-- I2C_OPEN (10_state.md R37) -/
  i2cOpen : Bool
  /-- FRAME (20_memory.md R61) -/
  frame : Memory
  /-- STAGE (20_memory.md R62) -/
  stage : Memory
  /-- I2C_TRACE, oldest first (20_memory.md R66) -/
  trace : List BusWrite
  /-- the ultrasound tunables (10_state.md R38) -/
  usTune : UsTunables
  /-- the ultrasound engine (10_state.md R39, R41) -/
  us : Engine
  /-- TRIG (10_state.md R40) -/
  trig : Bool
deriving DecidableEq, Repr

/-- A button channel after reset (10_state.md R44): the line up, nothing counted. -/
def Channel.initial : Channel where
  level := true
  dbcnt := 0
  gst := .idle
  holdsub := .none
  holding := false
  holdcnt := 0
  dparmed := false
  dptimer := 0
  lastpress := 0

/-- The ultrasound engine after reset (10_state.md R44). -/
def Engine.initial : Engine where
  st := .idle
  req := 0
  idx := 0
  ctr := 0
  scnt := 0
  stopw := 0
  ocnt := 0
  eprev := false
  total := 0
  cnt := 0
  res := .none
  dist := 0
  done := false

/-- The reset values of 10_state.md R44 under the parameters `cfg`, with a given bus trace and
environment: what the reset pin (70_reset_and_hazards.md R360) and SRST (45_system.md R303)
share. -/
def State.inert (cfg : Config) (env : Env) (trace : List BusWrite) : State where
  cfg := cfg
  env := env
  cmdseq := 0
  now := 0
  err := { lasterr := .ok, errseq := 0, errcmd := 0, errinfo := 0, fatal := false }
  motors := Pair.all { speed := 0, dutyP := 0, dutyN := 0 }
  motorEn := false
  btnEn := true
  btnTune := { debounce := cfg.debounceDefault, dpwin := cfg.dpwinDefault,
               holdmin := cfg.holdminDefault }
  channels := Quad.all Channel.initial
  ledDuty := Quad.all 0
  blinkActive := false
  blinkTimer := 0
  subs := List.replicate cfg.nSub { mask := 0, pend := 0 }
  evcnt := Quad.all { press := 0, double := 0, hold := 0 }
  i2cOpen := false
  frame := []
  stage := []
  trace := trace
  usTune := { offset := cfg.usOffsetDefault, sampleTo := cfg.usSampleToDefault,
              overall := cfg.usOverallDefault, gap := cfg.usGapDefault }
  us := Engine.initial
  trig := false

/-- TPC right after reset, with the default parameters (10_state.md R44), before the environment
has chosen anything (log 1, log 2, log 5). -/
def State.reset : State :=
  State.inert Config.standard
    { pending := [], drawn := 0, answers := [], asked := 0, responses := [] } []

/-- The reasons the machine could stop. There are none: every error of TPC is a status in a
response (60_exceptions.md R320, R330), and an access outside a memory answers InvalidInput
(20_memory.md R68), so no step faults. -/
inductive Fault where
deriving DecidableEq, Repr

/-- The reasons a step can have no meaning. -/
inductive Refusal where
  /-- Raised only by an arm of exec whose instruction has no meaning yet; safe: the model stops
  where the hardware goes on. -/
  | notModelled (mnemonic : String)
deriving DecidableEq, Repr

end Sys2Proof.Machine
end

