-- ==== Sys2Proof/Machine/Flags.lean ====
section
/-! DEFINITION. The numbers of the enumerated values, the packed registers (10_state.md R29, R32,
R39, R43) and the interrupt lines (60_exceptions.md R340 to R342). -/

namespace Sys2Proof.Machine

/-- The status codes (60_exceptions.md R320). -/
def Status.code (e : Status) : BitVec 8 :=
  match e with
  | .ok => 0x00
  | .invalidInput => 0x01
  | .transportFailure => 0x02
  | .sensorTimeout => 0x03
  | .invalidCommand => 0x04
  | .busy => 0x05
  | .notOpen => 0x06
  | .alreadyOpen => 0x07
  | .fatal => 0x08
  | .cancelled => 0x09
  | .noResult => 0x0A

/-- GST[b] as a number (10_state.md R32). -/
def Gesture.code (g : Gesture) : BitVec 2 :=
  match g with
  | .idle => 0
  | .pressed => 1
  | .double => 2
  | .hold => 3

/-- HOLDSUB[b] as a number (10_state.md R32). -/
def HoldSub.code (h : HoldSub) : BitVec 2 :=
  match h with
  | .none => 0
  | .started => 1
  | .completed => 2
  | .canceled => 3

/-- The event kinds numbered PRESS 0, DOUBLE 1, HOLD 2 (00_scope.md R5). -/
def EventKind.index (k : EventKind) : Nat :=
  match k with
  | .press => 0
  | .double => 1
  | .hold => 2

/-- US_ST as a number (10_state.md R39). -/
def UsState.code (u : UsState) : BitVec 3 :=
  match u with
  | .idle => 0
  | .gap => 1
  | .trig => 2
  | .waitRise => 3
  | .waitFall => 4

/-- US_RES as a number (10_state.md R41). -/
def UsResult.code (r : UsResult) : BitVec 3 :=
  match r with
  | .none => 0
  | .ok => 1
  | .timeout => 2
  | .cancelled => 3
  | .transport => 4

/-- `e = 3b + k`, the place of event (b, k) in SUBMASK and PEND (10_state.md R35). -/
def eventBit (b : Fin 4) (k : EventKind) : Nat := 3 * b.val + k.index

/-- US_BUSY (10_state.md R29). -/
def State.usBusy (s : State) : Bool := s.us.st != .idle

/-- STATUS, bit 7 first: BTN_EN, BLINK_ACTIVE, US_DONE, US_BUSY, TRIG, MOTOR_EN, I2C_OPEN, FATAL
(10_state.md R29). -/
def State.statusByte (s : State) : BitVec 8 :=
  BitVec.ofBool s.btnEn ++ BitVec.ofBool s.blinkActive ++ BitVec.ofBool s.us.done ++
  BitVec.ofBool s.usBusy ++ BitVec.ofBool s.trig ++ BitVec.ofBool s.motorEn ++
  BitVec.ofBool s.i2cOpen ++ BitVec.ofBool s.err.fatal

/-- BTN_STATE[b]: bit 0 LEVEL, bit 1 HOLDING, bits 3:2 GST, bits 5:4 HOLDSUB, bit 6 DPARMED
(10_state.md R32). -/
def Channel.packed (c : Channel) : BitVec 7 :=
  BitVec.ofBool c.dparmed ++ c.holdsub.code ++ c.gst.code ++ BitVec.ofBool c.holding ++
  BitVec.ofBool c.level

/-- US_STATE: bits 2:0 US_ST, bits 6:4 US_RES, bit 8 US_DONE, bit 9 US_EPREV (10_state.md R39). -/
def Engine.packed (u : Engine) : BitVec 10 :=
  BitVec.ofBool u.eprev ++ BitVec.ofBool u.done ++ (0 : BitVec 1) ++ u.res.code ++
  (0 : BitVec 1) ++ u.st.code

/-- SUBMASK[i] and PEND[i]; a number without a slot holds nothing (10_state.md R35; log 20). -/
def State.slot (s : State) (i : Nat) : Subscriber := s.subs.getD i { mask := 0, pend := 0 }

/-- `irq_sub[i] = 1` exactly when `PEND[i] != 0`, one line per slot (60_exceptions.md R340). -/
def State.irqSub (s : State) (i : Nat) : Bool := (s.slot i).pend != 0

/-- `irq_us = US_DONE` (60_exceptions.md R341). -/
def State.irqUs (s : State) : Bool := s.us.done

/-- `irq_fatal = FATAL` (60_exceptions.md R342). -/
def State.irqFatal (s : State) : Bool := s.err.fatal

end Sys2Proof.Machine
end

