-- ==== Sys2Proof/Machine/Gamma.lean ====
section
/-! DEFINITION. The gamma table, the read-only memory GAMMA (20_memory.md R63). -/

namespace Sys2Proof.Machine

/-- Row 0 of the table of 20_memory.md R63. -/
def gammaRow0 : List Byte :=
  [0x00, 0x00, 0x00, 0x00, 0x00, 0x00, 0x00, 0x00, 0x00, 0x00, 0x00, 0x00, 0x00, 0x00, 0x00, 0x00]

/-- Row 1 of the table of 20_memory.md R63. -/
def gammaRow1 : List Byte :=
  [0x00, 0x00, 0x00, 0x01, 0x01, 0x01, 0x01, 0x01, 0x01, 0x01, 0x01, 0x01, 0x01, 0x01, 0x01, 0x01]

/-- Row 2 of the table of 20_memory.md R63. -/
def gammaRow2 : List Byte :=
  [0x01, 0x01, 0x01, 0x01, 0x01, 0x01, 0x01, 0x01, 0x01, 0x01, 0x01, 0x02, 0x02, 0x02, 0x02, 0x02]

/-- Row 3 of the table of 20_memory.md R63. -/
def gammaRow3 : List Byte :=
  [0x02, 0x02, 0x02, 0x02, 0x02, 0x02, 0x02, 0x02, 0x02, 0x02, 0x03, 0x03, 0x03, 0x03, 0x03, 0x03]

/-- Row 4 of the table of 20_memory.md R63. -/
def gammaRow4 : List Byte :=
  [0x03, 0x03, 0x03, 0x03, 0x03, 0x03, 0x04, 0x04, 0x04, 0x04, 0x04, 0x04, 0x04, 0x04, 0x04, 0x05]

/-- Row 5 of the table of 20_memory.md R63. -/
def gammaRow5 : List Byte :=
  [0x05, 0x05, 0x05, 0x05, 0x05, 0x05, 0x05, 0x06, 0x06, 0x06, 0x06, 0x06, 0x06, 0x07, 0x07, 0x07]

/-- Row 6 of the table of 20_memory.md R63. -/
def gammaRow6 : List Byte :=
  [0x07, 0x07, 0x07, 0x08, 0x08, 0x08, 0x08, 0x08, 0x09, 0x09, 0x09, 0x09, 0x09, 0x0A, 0x0A, 0x0A]

/-- Row 7 of the table of 20_memory.md R63. -/
def gammaRow7 : List Byte :=
  [0x0A, 0x0B, 0x0B, 0x0B, 0x0B, 0x0C, 0x0C, 0x0C, 0x0D, 0x0D, 0x0D, 0x0E, 0x0E, 0x0E, 0x0E, 0x0F]

/-- Row 8 of the table of 20_memory.md R63. -/
def gammaRow8 : List Byte :=
  [0x0F, 0x10, 0x10, 0x10, 0x11, 0x11, 0x11, 0x12, 0x12, 0x13, 0x13, 0x14, 0x14, 0x14, 0x15, 0x15]

/-- Row 9 of the table of 20_memory.md R63. -/
def gammaRow9 : List Byte :=
  [0x16, 0x16, 0x17, 0x17, 0x18, 0x19, 0x19, 0x1A, 0x1A, 0x1B, 0x1B, 0x1C, 0x1D, 0x1D, 0x1E, 0x1F]

/-- Row 10 of the table of 20_memory.md R63. -/
def gammaRow10 : List Byte :=
  [0x1F, 0x20, 0x21, 0x22, 0x22, 0x23, 0x24, 0x25, 0x26, 0x26, 0x27, 0x28, 0x29, 0x2A, 0x2B, 0x2C]

/-- Row 11 of the table of 20_memory.md R63. -/
def gammaRow11 : List Byte :=
  [0x2D, 0x2E, 0x2F, 0x30, 0x31, 0x32, 0x33, 0x34, 0x36, 0x37, 0x38, 0x39, 0x3B, 0x3C, 0x3D, 0x3F]

/-- Row 12 of the table of 20_memory.md R63. -/
def gammaRow12 : List Byte :=
  [0x40, 0x41, 0x43, 0x44, 0x46, 0x48, 0x49, 0x4B, 0x4C, 0x4E, 0x50, 0x52, 0x53, 0x55, 0x57, 0x59]

/-- Row 13 of the table of 20_memory.md R63. -/
def gammaRow13 : List Byte :=
  [0x5B, 0x5D, 0x5F, 0x61, 0x63, 0x66, 0x68, 0x6A, 0x6D, 0x6F, 0x72, 0x74, 0x77, 0x79, 0x7C, 0x7F]

/-- Row 14 of the table of 20_memory.md R63. -/
def gammaRow14 : List Byte :=
  [0x81, 0x84, 0x87, 0x8A, 0x8D, 0x90, 0x94, 0x97, 0x9A, 0x9E, 0xA1, 0xA5, 0xA8, 0xAC, 0xB0, 0xB4]

/-- Row 15 of the table of 20_memory.md R63. -/
def gammaRow15 : List Byte :=
  [0xB8, 0xBC, 0xC0, 0xC4, 0xC9, 0xCD, 0xD1, 0xD6, 0xDB, 0xE0, 0xE5, 0xEA, 0xEF, 0xF4, 0xF9, 0xFF]

/-- The gamma table, cell i at position i (20_memory.md R63). -/
def gammaTable : List Byte :=
  gammaRow0 ++ gammaRow1 ++ gammaRow2 ++ gammaRow3 ++
  gammaRow4 ++ gammaRow5 ++ gammaRow6 ++ gammaRow7 ++
  gammaRow8 ++ gammaRow9 ++ gammaRow10 ++ gammaRow11 ++
  gammaRow12 ++ gammaRow13 ++ gammaRow14 ++ gammaRow15

/-- `Gamma(i) = GAMMA[i]` for a u8 code i (42_sn3218.md R206). -/
def gamma (i : Byte) : Byte := gammaTable.getD i.toNat 0

end Sys2Proof.Machine
end

