-- ==== Sys2Proof/Machine/Operands.lean ====
section
/-! DEFINITION. How operands are read (30_encoding.md R93) and the arithmetic primitives of the
notation (00_scope.md R8, R10). Everything is computed over Nat or Int and narrowed at the end. -/

namespace Sys2Proof.Machine

/-- `clamp(v, lo, hi)` (00_scope.md R8). -/
def clamp (v lo hi : Int) : Int := if v < lo then lo else if v > hi then hi else v

/-- `clamp(v, -ONE, ONE)`, the silent clamp of speeds (40_motor.md R121). -/
def clampSpeed (v : Int) : Int := clamp v (-ONE) ONE

/-- `clamp(v, 0, ONE)` as a natural number, the silent clamp of intensities, saturations and
brightness values (41_button.md R180, 43_underlight.md R240). -/
def clampUnit (v : Int) : Nat := (clamp v 0 ONE).toNat

/-- `rnd(num / den)`, round to nearest, halves upward (00_scope.md R8). -/
def rnd (num den : Nat) : Nat := (2 * num + den) / (2 * den)

/-- The greatest value of a u32 register. -/
def u32Max : Nat := 4294967295

/-- `min(v, 2^32 - 1)` as a register value: the saturating narrowing of 44_ultrasound.md R264,
R265, R274. -/
def sat32 (v : Nat) : W32 := BitVec.ofNat 32 (min v u32Max)

/-- A fraction or component operand, `sext_16` (30_encoding.md R93). -/
def sext16 (v : W16) : Int := v.toInt

/-- A 4-bit selector as an index below `n`, none when it is out of range (30_encoding.md R93,
R96 (d)). -/
def selector (n : Nat) (sel : BitVec 4) : Option (Fin n) :=
  if h : sel.toNat < n then some ⟨sel.toNat, h⟩ else none

/-- An operand as an info or response value, zero-extended (45_system.md R300). -/
def zext32 {w : Nat} (v : BitVec w) : W32 := v.setWidth 32

/-- A component of an RGB operand is in 0..255 (43_underlight.md R239). -/
def componentOk (v : W16) : Bool := decide (0 ≤ sext16 v ∧ sext16 v ≤ 255)

/-- The byte of an RGB component already known to be in 0..255 (43_underlight.md R239). -/
def componentByte (v : W16) : Byte := v.setWidth 8

/-- A duty or an intensity, narrowed to the register (00_scope.md R10). -/
def dutyOf (d : Nat) : W16 := BitVec.ofNat 16 d

/-- The intensity of a boolean LED operand: ONE or 0 (41_button.md R181). -/
def dutyOfBool (on : Bool) : W16 := if on then dutyOf ONE else 0

end Sys2Proof.Machine
end

