-- ==== Sys2Proof/Machine/Ops.lean ====
section
/-! DEFINITION. The shared operations: memory access, leaf operations (00_scope.md R9), how a
command is admitted, run and ended (60_exceptions.md R325, R330; 45_system.md R300), and the notify
step (41_button.md R171). Ending with an error status is TPC's whole trap entry
(60_exceptions.md R330); there is no return from it (R337). -/

namespace Sys2Proof.Machine

/-! ### Memory -/

/-- The byte at address `a`. -/
def Memory.read (m : Memory) (a : Nat) : Byte :=
  match m with
  | [] => unlistedByte
  | c :: rest => if c.1 = a then c.2 else Memory.read rest a

/-- Put a cell in its place by address. -/
def Memory.insertCell (m : Memory) (c : Host.Cell) : Memory :=
  match m with
  | [] => [c]
  | d :: rest => if c.1 < d.1 then c :: d :: rest else d :: Memory.insertCell rest c

/-- Write one byte; a cell that comes to hold what an unlisted one reads as is no longer listed. -/
def Memory.write (m : Memory) (a : Nat) (v : Byte) : Memory :=
  let others := m.filter fun c => c.1 ≠ a
  if v = unlistedByte then others else Memory.insertCell others (a, v)

/-- The memory spaces (20_memory.md R60). -/
inductive Space where
  | frame
  | stage
  | gamma
deriving DecidableEq, Repr

/-- `MemRead(space, i)` (00_scope.md R9). The commands check every index first (20_memory.md R68). -/
def State.memRead (s : State) (space : Space) (i : Nat) : Byte :=
  match space with
  | .frame => s.frame.read i
  | .stage => s.stage.read i
  | .gamma => gamma (BitVec.ofNat 8 i)

/-- `MemWrite(space, i, v)` (00_scope.md R9). Nobody writes GAMMA (20_memory.md R60), and an index
outside the space accesses nothing (20_memory.md R68). -/
def State.memWrite (s : State) (space : Space) (i : Nat) (v : Byte) : State :=
  match space with
  | .frame => if i < nChannel then { s with frame := s.frame.write i v } else s
  | .stage => if i < s.cfg.stageSize then { s with stage := s.stage.write i v } else s
  | .gamma => s

/-- The first 18 bytes of a space, in slot order (20_memory.md R67 (3)). -/
def State.bytes18 (s : State) (space : Space) : List Byte :=
  (List.range nChannel).map (s.memRead space)

/-! ### Leaf operations -/

/-- The PWM channels (00_scope.md R9). -/
inductive PwmChannel where
  | lp
  | ln
  | rp
  | rn
  | led (b : Fin 4)
deriving DecidableEq, Repr

/-- The output lines (00_scope.md R9). -/
inductive GpioLine where
  | motorEn
  | trig
deriving DecidableEq, Repr

/-- A leaf operation (00_scope.md R9). -/
inductive LeafOp where
  | pwmSet (ch : PwmChannel) (d : W16)
  | gpioWrite (line : GpioLine) (v : Bool)
  | i2cWrite (bytes : List Byte)
deriving DecidableEq, Repr

/-- The register write of `PwmSet` (00_scope.md R9, 10_state.md R27, R33). -/
def State.drivePwm (s : State) (ch : PwmChannel) (d : W16) : State :=
  match ch with
  | .lp => { s with motors := s.motors.set 0 { s.motors.get 0 with dutyP := d } }
  | .ln => { s with motors := s.motors.set 0 { s.motors.get 0 with dutyN := d } }
  | .rp => { s with motors := s.motors.set 1 { s.motors.get 1 with dutyP := d } }
  | .rn => { s with motors := s.motors.set 1 { s.motors.get 1 with dutyN := d } }
  | .led b => { s with ledDuty := s.ledDuty.set b d }

/-- The register write of `GpioWrite` (00_scope.md R9, 10_state.md R28, R40). -/
def State.driveGpio (s : State) (line : GpioLine) (v : Bool) : State :=
  match line with
  | .motorEn => { s with motorEn := v }
  | .trig => { s with trig := v }

/-- The environment's answer to leaf operation number `n` since the start: the listed one, or a
free value (log 2). -/
def State.answerAt (s : State) (n : Nat) : Answer :=
  match s.env.answers[n]? with
  | some a => a
  | none => Config.freeAnswer n

/-- One more leaf operation asked of the environment (log 2). -/
def State.countAsked (s : State) : State :=
  { s with env := { s.env with asked := s.env.asked + 1 } }

/-- A leaf operation and its answer. The effect stands whatever the answer: the register holds the
value driven, and the write is in I2C_TRACE (60_exceptions.md R331, 20_memory.md R66). `PwmSet` and
`GpioWrite` are asked of the environment only with LEAF_CAN_FAIL (00_scope.md R9). -/
def State.leaf (s : State) (op : LeafOp) : State × Answer :=
  match op with
  | .pwmSet ch d =>
    if s.cfg.leafCanFail then ((s.drivePwm ch d).countAsked, s.answerAt s.env.asked)
    else (s.drivePwm ch d, .ok)
  | .gpioWrite line v =>
    if s.cfg.leafCanFail then ((s.driveGpio line v).countAsked, s.answerAt s.env.asked)
    else (s.driveGpio line v, .ok)
  | .i2cWrite bytes =>
    let a := s.answerAt s.env.asked
    (({ s with trace := s.trace ++ [{ address := s.cfg.i2cAddr, bytes := bytes, answer := a }] } :
        State).countAsked, a)

/-! ### How a command ends -/

/-- The status and info of a `raise` (00_scope.md R9). -/
structure Failure where
  status : Status
  info : W32
deriving DecidableEq, Repr

/-- A response word: status, 24 zero bits, value (30_encoding.md R94). -/
def responseWord (e : Status) (value : W32) : W64 := e.code ++ (0 : BitVec 24) ++ value

/-- Return a response word to the host (30_encoding.md R94; log 5). -/
def State.respond (s : State) (rsp : W64) : State :=
  { s with env := { s.env with responses := s.env.responses ++ [rsp] } }

/-- CMDSEQ counts the command (10_state.md R24). -/
def State.countCommand (s : State) : State := { s with cmdseq := s.cmdseq + 1 }

/-- Load the error record, and set FATAL on a transport failure (60_exceptions.md R330 (3), (4)). -/
def State.recordError (s : State) (cw : W64) (f : Failure) : State :=
  { s with err := { lasterr := f.status, errseq := s.cmdseq, errcmd := cw, errinfo := f.info,
                    fatal := s.err.fatal || f.status == .transportFailure } }

/-- `respond OK, value v` (45_system.md R300). -/
def State.endOk (s : State) (v : W32) : State := (s.respond (responseWord .ok v)).countCommand

/-- `raise E(info)` as the end of command word `cw` (45_system.md R300, 60_exceptions.md R330). -/
def State.endFailed (s : State) (cw : W64) (f : Failure) : State :=
  ((s.recordError cw f).respond (responseWord f.status f.info)).countCommand

/-! ### A command under way -/

/-- A command under way: the state so far, the number of leaf operations made, the failure raised,
and the value to respond with. -/
structure Run where
  state : State
  leafNo : Nat
  failure : Option Failure
  value : W32
deriving DecidableEq, Repr

/-- The start of a command's pseudocode. -/
def Run.start (s : State) : Run := { state := s, leafNo := 0, failure := none, value := 0 }

/-- Do `f`, unless a failure was raised: nothing after a `raise` is done (00_scope.md R9). -/
def Run.andThen (r : Run) (f : Run → Run) : Run :=
  match r.failure with
  | none => f r
  | some _ => r

/-- A state change. -/
def Run.write (r : Run) (f : State → State) : Run :=
  r.andThen fun r => { r with state := f r.state }

/-- `raise E(info)`. -/
def Run.raise (r : Run) (f : Failure) : Run := r.andThen fun r => { r with failure := some f }

/-- `if c then raise E(info)`. -/
def Run.raiseIf (r : Run) (c : Bool) (f : Failure) : Run := if c then r.raise f else r

/-- A leaf operation; the answer `fail` raises TransportFailure(k), k its number in the command
(00_scope.md R9). -/
def Run.leaf (r : Run) (op : LeafOp) : Run :=
  r.andThen fun r =>
    match r.state.leaf op with
    | (s, .ok) => { r with state := s, leafNo := r.leafNo + 1 }
    | (s, .fail) => { r with state := s,
                             failure := some ⟨.transportFailure, BitVec.ofNat 32 r.leafNo⟩ }

/-- Leaf operations one after the other. -/
def Run.leaves (r : Run) (ops : List LeafOp) : Run := ops.foldl Run.leaf r

/-- `respond OK, value v`: set the value the command will respond with. -/
def Run.answer (r : Run) (v : State → W32) : Run := r.andThen fun r => { r with value := v r.state }

/-- A selector check: `if sel >= n then raise InvalidInput(info)`, else go on with the index
(30_encoding.md R96 (d)). -/
def Run.withSelector (r : Run) (n : Nat) (sel : BitVec 4) (info : W32) (k : Fin n → Run → Run) : Run :=
  match selector n sel with
  | some i => r.andThen (k i)
  | none => r.raise ⟨.invalidInput, info⟩

/-- How the command ends (45_system.md R300). -/
def Run.retire (r : Run) (cw : W64) : State :=
  match r.failure with
  | none => r.state.endOk r.value
  | some f => r.state.endFailed cw f

/-! ### Admission -/

/-- An admission check (60_exceptions.md R325): the failure it reports, if it fails. -/
abbrev Check := State → Option Failure

/-- Step 3: FATAL = 0, else Fatal(0) (60_exceptions.md R332). -/
def notFatal : Check := fun s => if s.err.fatal then some ⟨.fatal, 0⟩ else none

/-- Step 4a: I2C_OPEN = 1, else NotOpen(0) (60_exceptions.md R326). -/
def busOpen : Check := fun s => if s.i2cOpen then none else some ⟨.notOpen, 0⟩

/-- Step 4a for UINIT: I2C_OPEN = 0, else AlreadyOpen(0) (60_exceptions.md R326). -/
def busClosed : Check := fun s => if s.i2cOpen then some ⟨.alreadyOpen, 0⟩ else none

/-- Step 4b: the engine idle, else Busy(US_ST) (60_exceptions.md R327). -/
def engineIdle : Check := fun s => if s.usBusy then some ⟨.busy, zext32 s.us.st.code⟩ else none

/-- Step 4c: US_DONE = 1, else NoResult(0) (60_exceptions.md R325). -/
def resultWaiting : Check := fun s => if s.us.done then none else some ⟨.noResult, 0⟩

/-- The first check that fails, in the order of 60_exceptions.md R325. -/
def firstFailure (checks : List Check) (s : State) : Option Failure :=
  match checks with
  | [] => none
  | c :: rest =>
    match c s with
    | some f => some f
    | none => firstFailure rest s

/-- One command: its checks in order, then its pseudocode, then its end (60_exceptions.md R325,
45_system.md R300). The command word of the error record is the one `i` encodes to (log 7). -/
def command (i : Instr) (checks : List Check) (body : Run → Run) (s : State) :
    Host.Outcome State Fault Refusal :=
  .next (match firstFailure checks s with
    | some f => s.endFailed (encode i) f
    | none => (body (Run.start s)).retire (encode i))

/-! ### Events -/

/-- EVCNT of one kind up by one, mod 2^32 (41_button.md R171). -/
def EventCounts.bump (c : EventCounts) (k : EventKind) : EventCounts :=
  match k with
  | .press => { c with press := c.press + 1 }
  | .double => { c with double := c.double + 1 }
  | .hold => { c with hold := c.hold + 1 }

/-- The pending bit of a subscribed event set, any other slot as it was (41_button.md R171). -/
def Subscriber.notify (u : Subscriber) (e : Nat) : Subscriber :=
  if u.mask.getLsbD e then { u with pend := u.pend ||| BitVec.twoPow 12 e } else u

/-- `emit(b, k)`, the notify step (41_button.md R171). -/
def State.emit (s : State) (b : Fin 4) (k : EventKind) : State :=
  { s with evcnt := s.evcnt.set b ((s.evcnt.get b).bump k),
           subs := s.subs.map fun u => u.notify (eventBit b k) }

end Sys2Proof.Machine
end

