-- ==== Sys2Proof/Machine/Button.lean ====
section
/-! DEFINITION. The button controller (41_button.md): the debouncer and gesture machine of one
channel, teardown, the blink timer, and the button commands. Admission of every command: Fatal if
FATAL = 1 (41_button.md R151). -/

namespace Sys2Proof.Machine

/-! ### The channel (R160 to R165) -/

/-- The debounced edge of a tick (41_button.md R160). -/
inductive Edge where
  | none
  | fall
  | rise
deriving DecidableEq, Repr

/-- Part 1, the debouncer (41_button.md R161). -/
def debounce (t : ButtonTunables) (r : Bool) (c : Channel) : Channel × Edge :=
  if r = c.level then ({ c with dbcnt := 0 }, .none)
  else if c.dbcnt.toNat + 1 ≥ t.debounce.toNat then
    ({ c with level := r, dbcnt := 0 }, if r then .rise else .fall)
  else ({ c with dbcnt := BitVec.ofNat 32 (c.dbcnt.toNat + 1) }, .none)

/-- Part 2, the ageing of the double-press window (41_button.md R163). -/
def ageWindow (c : Channel) : Channel :=
  if c.dparmed then
    if c.dptimer = 0 then { c with dparmed := false } else { c with dptimer := c.dptimer - 1 }
  else c

/-- Part 3, the press, with the events it raises in order (41_button.md R162). -/
def pressChannel (t : ButtonTunables) (now : W32) (c : Channel) : Channel × List EventKind :=
  let c := { c with lastpress := now, holdcnt := 0, holdsub := .none }
  if c.dparmed then ({ c with dparmed := false, gst := .double }, [.press, .double])
  else ({ c with dparmed := true, dptimer := t.dpwin, gst := .pressed }, [.press])

/-- Part 4, the hold, with the event it raises (41_button.md R164). -/
def holdChannel (t : ButtonTunables) (c : Channel) : Channel × List EventKind :=
  let n := c.holdcnt.toNat + 1
  let c := { c with holdcnt := BitVec.ofNat 32 n }
  if n ≥ t.holdmin.toNat then ({ c with gst := .hold, holdsub := .started, holding := true }, [.hold])
  else (c, [])

/-- Part 5, the release (41_button.md R165; log 9). -/
def releaseChannel (c : Channel) : Channel :=
  let c := if c.gst = .hold then { c with holdsub := .completed, holding := false } else c
  { c with gst := .idle, holdcnt := 0 }

/-- One tick of an enabled channel: the five parts in order, and the events raised in order
(41_button.md R160). -/
def channelTick (t : ButtonTunables) (now : W32) (r : Bool) (c : Channel) :
    Channel × List EventKind :=
  let d := debounce t r c
  let c := ageWindow d.1
  match d.2 with
  | .fall => pressChannel t now c
  | .rise => (releaseChannel c, [])
  | .none =>
    if c.level = false ∧ (c.gst = .pressed ∨ c.gst = .double) then holdChannel t c else (c, [])

/-- Tick step of button channel `b` on the raw level `r` (41_button.md R160). -/
def State.buttonTick (s : State) (b : Fin 4) (r : Bool) : State :=
  if s.btnEn then
    let p := channelTick s.btnTune s.now r (s.channels.get b)
    p.2.foldl (fun s k => s.emit b k) { s with channels := s.channels.set b p.1 }
  else s

/-- A channel after teardown (41_button.md R166; log 9). -/
def teardownChannel (c : Channel) : Channel :=
  let c := if c.holdsub = .started then { c with holdsub := .canceled, holding := false } else c
  { c with gst := .idle, level := true, dbcnt := 0, holdcnt := 0, dparmed := false, dptimer := 0 }

/-- `ButtonTeardown()` (41_button.md R166). -/
def State.buttonTeardown (s : State) : State :=
  { s with channels := s.channels.map teardownChannel, btnEn := false }

/-! ### The blink timer (R185) -/

/-- One LED turned off by the blink timer; a failing leaf is recorded with info 1 and the timer goes
on (41_button.md R185, 60_exceptions.md R333). -/
def State.blinkLedOff (s : State) (b : Fin 4) : State :=
  match s.leaf (.pwmSet (.led b) 0) with
  | (s, .ok) => s
  | (s, .fail) => s.recordError 0 ⟨.transportFailure, 1⟩

/-- Tick step of the blink timer (41_button.md R185). -/
def State.blinkTick (s : State) : State :=
  if s.blinkActive then
    if s.blinkTimer = 0 then
      { [0, 1, 2, 3].foldl (fun (s : State) (b : Fin 4) => s.blinkLedOff b) s with blinkActive := false }
    else { s with blinkTimer := s.blinkTimer - 1 }
  else s

/-! ### Commands -/

/-- All four LEDs at one duty, A first (41_button.md R182). -/
def Run.ledAll (r : Run) (d : W16) : Run :=
  r.leaves [.pwmSet (.led 0) d, .pwmSet (.led 1) d, .pwmSet (.led 2) d, .pwmSet (.led 3) d]

/-- SUBMASK[i] and PEND[i] changed by `f` (41_button.md R172 to R174). -/
def State.modifySlot (s : State) (i : Nat) (f : Subscriber → Subscriber) : State :=
  { s with subs := s.subs.set i (f (s.slot i)) }

/-- A slot number above the last one raises InvalidInput(s) (41_button.md R172 to R174; log 19). -/
def Run.withSlot (r : Run) (slot : BitVec 4) (k : Nat → Run → Run) : Run :=
  r.withSelector r.state.cfg.nSub slot (zext32 slot) fun i r => k i.val r

/-- BLED (41_button.md R180). -/
def execBled (button : BitVec 4) (intensity : W16) (s : State) : Host.Outcome State Fault Refusal :=
  command (.bled button intensity) [notFatal]
    (fun r => r.withSelector 4 button (zext32 button) fun b r =>
      r.leaf (.pwmSet (.led b) (dutyOf (clampUnit (sext16 intensity))))) s

/-- BLEDB (41_button.md R181). -/
def execBledb (button : BitVec 4) (on : Bool) (s : State) : Host.Outcome State Fault Refusal :=
  command (.bledb button on) [notFatal]
    (fun r => r.withSelector 4 button (zext32 button) fun b r =>
      r.leaf (.pwmSet (.led b) (dutyOfBool on))) s

/-- BLEDALL (41_button.md R182). -/
def execBledall (intensity : W16) (s : State) : Host.Outcome State Fault Refusal :=
  command (.bledall intensity) [notFatal]
    (fun r => r.ledAll (dutyOf (clampUnit (sext16 intensity)))) s

/-- BLEDALLB (41_button.md R183). -/
def execBledallb (on : Bool) (s : State) : Host.Outcome State Fault Refusal :=
  command (.bledallb on) [notFatal] (fun r => r.ledAll (dutyOfBool on)) s

/-- BHOLD (41_button.md R175). -/
def execBhold (button : BitVec 4) (s : State) : Host.Outcome State Fault Refusal :=
  command (.bhold button) [notFatal]
    (fun r => r.withSelector 4 button (zext32 button) fun b r =>
      r.answer fun s => zext32 (BitVec.ofBool (s.channels.get b).holding)) s

/-- BSUB (41_button.md R172). -/
def execBsub (slot : BitVec 4) (mask : BitVec 12) (s : State) : Host.Outcome State Fault Refusal :=
  command (.bsub slot mask) [notFatal]
    (fun r => r.withSlot slot fun i r =>
      (r.write fun s => s.modifySlot i fun u => { u with mask := u.mask ||| mask }).answer
        fun s => zext32 (s.slot i).mask) s

/-- BUNSUB (41_button.md R173). -/
def execBunsub (slot : BitVec 4) (mask : BitVec 12) (s : State) : Host.Outcome State Fault Refusal :=
  command (.bunsub slot mask) [notFatal]
    (fun r => r.withSlot slot fun i r =>
      (r.write fun s => s.modifySlot i fun u =>
        { mask := u.mask &&& ~~~mask, pend := u.pend &&& ~~~mask }).answer
        fun s => zext32 (s.slot i).mask) s

/-- BACK (41_button.md R174). -/
def execBack (slot : BitVec 4) (mask : BitVec 12) (s : State) : Host.Outcome State Fault Refusal :=
  command (.back slot mask) [notFatal]
    (fun r => r.withSlot slot fun i r =>
      (r.answer fun s => zext32 ((s.slot i).pend &&& mask)).write
        fun s => s.modifySlot i fun u => { u with pend := u.pend &&& ~~~mask }) s

/-- BBLINK (41_button.md R184). -/
def execBblink (interval : W32) (s : State) : Host.Outcome State Fault Refusal :=
  command (.bblink interval) [notFatal]
    (fun r => (r.ledAll (dutyOf ONE)).write
      fun s => { s with blinkTimer := interval, blinkActive := true }) s

end Sys2Proof.Machine
end

