-- ==== Sys2Proof/Machine/Motor.lean ====
section
/-! DEFINITION. The motor commands (40_motor.md). Admission of every one: Fatal if FATAL = 1
(40_motor.md R120). -/

namespace Sys2Proof.Machine

/-- `Duty(c)`: the duties of the positive and the negative leg for a clamped speed (40_motor.md
R122). -/
def dutyPair (cfg : Config) (c : Int) : W16 × W16 :=
  if c > 0 then (dutyOf ONE, dutyOf (ONE - c).toNat)
  else if c < 0 then (dutyOf (ONE + c).toNat, dutyOf ONE)
  else (dutyOf ONE, cfg.brakeNegDuty)

/-- The PWM channel of a motor's positive leg: LP or RP (10_state.md R27). -/
def posLeg (m : Fin 2) : PwmChannel := if m = 0 then .lp else .rp

/-- The PWM channel of a motor's negative leg: LN or RN (10_state.md R27). -/
def negLeg (m : Fin 2) : PwmChannel := if m = 0 then .ln else .rn

/-- `SPEED[m] <- c` (10_state.md R26). -/
def State.storeSpeed (s : State) (m : Fin 2) (c : Int) : State :=
  { s with motors := s.motors.set m { s.motors.get m with speed := BitVec.ofInt 16 c } }

/-- The step `SetSpeed(m, s)` (40_motor.md R121). -/
def Run.setSpeed (r : Run) (m : Fin 2) (v : Int) : Run :=
  let c := clampSpeed v
  let d := dutyPair r.state.cfg c
  (r.write fun s => s.storeSpeed m c).leaves
    [.gpioWrite .motorEn true, .pwmSet (posLeg m) d.1, .pwmSet (negLeg m) d.2]

/-- Both motors, LEFT before RIGHT (40_motor.md R125, R137). -/
def Run.setSpeeds (r : Run) (left right : Int) : Run := (r.setSpeed 0 left).setSpeed 1 right

/-- `disable()`: the enable line low, the four duties 0 (40_motor.md R124). -/
def Run.disable (r : Run) : Run :=
  r.leaves [.gpioWrite .motorEn false, .pwmSet .lp 0, .pwmSet .ln 0, .pwmSet .rp 0, .pwmSet .rn 0]

/-- MSET (40_motor.md R123). -/
def execMset (motor : BitVec 4) (speed : W16) (s : State) : Host.Outcome State Fault Refusal :=
  command (.mset motor speed) [notFatal]
    (fun r => r.withSelector 2 motor (zext32 motor) fun m r => r.setSpeed m (sext16 speed)) s

/-- MBOTH (40_motor.md R125). -/
def execMboth (speed : W16) (s : State) : Host.Outcome State Fault Refusal :=
  command (.mboth speed) [notFatal] (fun r => r.setSpeeds (sext16 speed) (sext16 speed)) s

/-- MDIS (40_motor.md R124). -/
def execMdis (s : State) : Host.Outcome State Fault Refusal :=
  command .mdis [notFatal] (fun r => r.disable) s

/-- MFWD (40_motor.md R126). -/
def execMfwd (speed : W16) (s : State) : Host.Outcome State Fault Refusal :=
  command (.mfwd speed) [notFatal] (fun r => r.setSpeeds (sext16 speed) (sext16 speed)) s

/-- MBWD (40_motor.md R127). -/
def execMbwd (speed : W16) (s : State) : Host.Outcome State Fault Refusal :=
  command (.mbwd speed) [notFatal] (fun r => r.setSpeeds (-sext16 speed) (-sext16 speed)) s

/-- MTL (40_motor.md R128). -/
def execMtl (speed : W16) (s : State) : Host.Outcome State Fault Refusal :=
  command (.mtl speed) [notFatal] (fun r => r.setSpeeds (-sext16 speed) (sext16 speed)) s

/-- MTR (40_motor.md R129). -/
def execMtr (speed : W16) (s : State) : Host.Outcome State Fault Refusal :=
  command (.mtr speed) [notFatal] (fun r => r.setSpeeds (sext16 speed) (-sext16 speed)) s

/-- MCFL (40_motor.md R130). -/
def execMcfl (speed : W16) (s : State) : Host.Outcome State Fault Refusal :=
  command (.mcfl speed) [notFatal] (fun r => r.setSpeeds 0 (sext16 speed)) s

/-- MCFR (40_motor.md R131). -/
def execMcfr (speed : W16) (s : State) : Host.Outcome State Fault Refusal :=
  command (.mcfr speed) [notFatal] (fun r => r.setSpeeds (sext16 speed) 0) s

/-- MCBL (40_motor.md R132). -/
def execMcbl (speed : W16) (s : State) : Host.Outcome State Fault Refusal :=
  command (.mcbl speed) [notFatal] (fun r => r.setSpeeds 0 (-sext16 speed)) s

/-- MCBR (40_motor.md R133). -/
def execMcbr (speed : W16) (s : State) : Host.Outcome State Fault Refusal :=
  command (.mcbr speed) [notFatal] (fun r => r.setSpeeds (-sext16 speed) 0) s

/-- MSTOP (40_motor.md R134). -/
def execMstop (s : State) : Host.Outcome State Fault Refusal :=
  command .mstop [notFatal] (fun r => r.setSpeeds 0 0) s

/-- MCOAST (40_motor.md R135). -/
def execMcoast (s : State) : Host.Outcome State Fault Refusal :=
  command .mcoast [notFatal] (fun r => r.disable) s

end Sys2Proof.Machine
end

