-- ==== Sys2Proof/Machine/Sn3218.lean ====
section
/-! DEFINITION. The Sn3218 protocol encoder (42_sn3218.md) and the byte lists of the bus writes
(20_memory.md R65). Admission of the bus commands: Fatal, then NotOpen; STW and STR only Fatal
(42_sn3218.md R200). -/

namespace Sys2Proof.Machine

/-- enable-output (20_memory.md R65). -/
def enableBytes (cfg : Config) : List Byte := [cfg.cmdEnable, cfg.enData]
/-- disable-output (20_memory.md R65). -/
def disableBytes (cfg : Config) : List Byte := [cfg.cmdEnable, cfg.disData]
/-- set-pwm-values (20_memory.md R65). -/
def valuesBytes (cfg : Config) (vs : List Byte) : List Byte := cfg.cmdSetval :: vs
/-- enable-leds-mask, least significant group first (20_memory.md R65, R67). -/
def maskBytes (cfg : Config) (m : BitVec 18) : List Byte :=
  [cfg.cmdLeds, (m.extractLsb' 0 6).setWidth 8, (m.extractLsb' 6 6).setWidth 8,
   (m.extractLsb' 12 6).setWidth 8]
/-- update (20_memory.md R65). -/
def updateBytes (cfg : Config) : List Byte := [cfg.cmdUpdate, cfg.updData]
/-- reset of the chip (20_memory.md R65). -/
def resetBytes (cfg : Config) : List Byte := [cfg.cmdReset, cfg.rstData]

/-- One bus write. -/
def Run.i2c (r : Run) (bytes : List Byte) : Run := r.leaf (.i2cWrite bytes)

/-- The step `Output(v0..v17)`: the values write, then the update write (42_sn3218.md R209). -/
def Run.output (r : Run) (vs : List Byte) : Run :=
  (r.i2c (valuesBytes r.state.cfg vs)).i2c (updateBytes r.state.cfg)

/-- SNEN (42_sn3218.md R201). -/
def execSnen (s : State) : Host.Outcome State Fault Refusal :=
  command .snen [notFatal, busOpen] (fun r => r.i2c (enableBytes r.state.cfg)) s

/-- SNDIS (42_sn3218.md R202). -/
def execSndis (s : State) : Host.Outcome State Fault Refusal :=
  command .sndis [notFatal, busOpen] (fun r => r.i2c (disableBytes r.state.cfg)) s

/-- SNRST (42_sn3218.md R203). -/
def execSnrst (s : State) : Host.Outcome State Fault Refusal :=
  command .snrst [notFatal, busOpen] (fun r => r.i2c (resetBytes r.state.cfg)) s

/-- SNMASK (42_sn3218.md R204). -/
def execSnmask (mask : BitVec 18) (s : State) : Host.Outcome State Fault Refusal :=
  command (.snmask mask) [notFatal, busOpen]
    (fun r => (r.i2c (maskBytes r.state.cfg mask)).i2c (updateBytes r.state.cfg)) s

/-- SNUPD (42_sn3218.md R205). -/
def execSnupd (s : State) : Host.Outcome State Fault Refusal :=
  command .snupd [notFatal, busOpen] (fun r => r.i2c (updateBytes r.state.cfg)) s

/-- `if len != 18 then raise InvalidInput(len)` (42_sn3218.md R207, R208). -/
def Run.checkLength (r : Run) (len : W16) : Run :=
  r.raiseIf (len.toNat != nChannel) ⟨.invalidInput, zext32 len⟩

/-- SNOUT, through GAMMA (42_sn3218.md R207). -/
def execSnout (len : W16) (s : State) : Host.Outcome State Fault Refusal :=
  command (.snout len) [notFatal, busOpen]
    (fun r => (r.checkLength len).output ((r.state.bytes18 .stage).map gamma)) s

/-- SNOUTR, raw (42_sn3218.md R208). -/
def execSnoutr (len : W16) (s : State) : Host.Outcome State Fault Refusal :=
  command (.snoutr len) [notFatal, busOpen]
    (fun r => (r.checkLength len).output (r.state.bytes18 .stage)) s

/-- `if i > 31 then raise InvalidInput(i)`, 31 the last byte of STAGE (42_sn3218.md R210, R211;
log 19). -/
def Run.checkIndex (r : Run) (idx : W16) : Run :=
  r.raiseIf (decide (r.state.cfg.stageSize ≤ idx.toNat)) ⟨.invalidInput, zext32 idx⟩

/-- STW (42_sn3218.md R210). -/
def execStw (idx : W16) (byte : Byte) (s : State) : Host.Outcome State Fault Refusal :=
  command (.stw idx byte) [notFatal]
    (fun r => (r.checkIndex idx).write fun s => s.memWrite .stage idx.toNat byte) s

/-- STR (42_sn3218.md R211). -/
def execStr (idx : W16) (s : State) : Host.Outcome State Fault Refusal :=
  command (.str idx) [notFatal]
    (fun r => (r.checkIndex idx).answer fun s => zext32 (s.memRead .stage idx.toNat)) s

end Sys2Proof.Machine
end

