-- ==== Sys2Proof/Machine/System.lean ====
section
/-! DEFINITION. The system commands (45_system.md): register reads and writes, soft reset, NOP. -/

namespace Sys2Proof.Machine

/-- EVCNT[b][k] of one button (10_state.md R36). -/
def EventCounts.count (c : EventCounts) (k : Fin 3) : W32 :=
  match k with
  | 0 => c.press
  | 1 => c.double
  | 2 => c.hold

/-- `RegRead`: the register zero-extended to 32 bits, SPEED sign-extended (45_system.md R301,
10_state.md R21). -/
def State.regRead (s : State) (r : Reg) : W32 :=
  match r with
  | .id => idValue
  | .cmdseq => s.cmdseq
  | .now => s.now
  | .status => zext32 s.statusByte
  | .lasterr => zext32 s.err.lasterr.code
  | .errseq => s.err.errseq
  | .errcmdHi => s.err.errcmd.extractLsb' 32 32
  | .errcmdLo => s.err.errcmd.extractLsb' 0 32
  | .errinfo => s.err.errinfo
  | .speed m => (s.motors.get m).speed.signExtend 32
  | .dutyP m => zext32 (s.motors.get m).dutyP
  | .dutyN m => zext32 (s.motors.get m).dutyN
  | .btnEn => zext32 (BitVec.ofBool s.btnEn)
  | .btnDebounce => s.btnTune.debounce
  | .btnDpwin => s.btnTune.dpwin
  | .btnHoldmin => s.btnTune.holdmin
  | .ledDuty b => zext32 (s.ledDuty.get b)
  | .blinkTimer => s.blinkTimer
  | .btnState b => zext32 (s.channels.get b).packed
  | .lastpress b => (s.channels.get b).lastpress
  | .dptimer b => (s.channels.get b).dptimer
  | .holdcnt b => (s.channels.get b).holdcnt
  | .dbcnt b => (s.channels.get b).dbcnt
  | .submask i => zext32 (s.slot i).mask
  | .pend i => zext32 (s.slot i).pend
  | .evcnt b k => (s.evcnt.get b).count k
  | .usOffset => s.usTune.offset
  | .usSampleTo => s.usTune.sampleTo
  | .usOverall => s.usTune.overall
  | .usGap => s.usTune.gap
  | .usState => zext32 s.us.packed
  | .usDist => s.us.dist
  | .usTotal => s.us.total
  | .usCnt => zext32 s.us.cnt
  | .usReq => zext32 s.us.req
  | .usIdx => zext32 s.us.idx
  | .usStopw => s.us.stopw
  | .usScnt => s.us.scnt
  | .usOcnt => s.us.ocnt
  | .usCtr => s.us.ctr
  | .frame i => zext32 (s.memRead .frame i.val)
  | .gamma i => zext32 (s.memRead .gamma i.val)

/-- The register write of WR, with the teardown that clearing BTN_EN performs (45_system.md R302,
41_button.md R166). -/
def State.writeTunable (s : State) (t : Tunable) (v : W32) : State :=
  match t with
  | .btnEn => if v = 0 ∧ s.btnEn = true then s.buttonTeardown else { s with btnEn := v != 0 }
  | .btnDebounce => { s with btnTune := { s.btnTune with debounce := v } }
  | .btnDpwin => { s with btnTune := { s.btnTune with dpwin := v } }
  | .btnHoldmin => { s with btnTune := { s.btnTune with holdmin := v } }
  | .usOffset => { s with usTune := { s.usTune with offset := v } }
  | .usSampleTo => { s with usTune := { s.usTune with sampleTo := v } }
  | .usOverall => { s with usTune := { s.usTune with overall := v } }
  | .usGap => { s with usTune := { s.usTune with gap := v } }

/-- Step 2 of RD: the register exists (60_exceptions.md R325, 45_system.md R301). -/
def registerExists (reg : W16) : Check := fun _ =>
  match regOfNumber reg with
  | some _ => none
  | none => some ⟨.invalidCommand, zext32 reg⟩

/-- Step 2 of WR: the register exists and is RW (60_exceptions.md R325, 45_system.md R302). -/
def registerWritable (reg : W16) : Check := fun _ =>
  match tunableOfNumber reg with
  | some _ => none
  | none => some ⟨.invalidCommand, zext32 reg⟩

/-- The checks of WR that depend on the register: the range of BTN_EN, the idle engine for the
ultrasound tunables (45_system.md R302). -/
def tunableAllows (t : Tunable) (v : W32) : Check :=
  match t with
  | .btnEn => fun _ => if v.toNat > 1 then some ⟨.invalidInput, v⟩ else none
  | .btnDebounce => fun _ => none
  | .btnDpwin => fun _ => none
  | .btnHoldmin => fun _ => none
  | .usOffset => engineIdle
  | .usSampleTo => engineIdle
  | .usOverall => engineIdle
  | .usGap => engineIdle

/-- The same for a register number; an unmapped one is reported before (`registerWritable`). -/
def writeAllowed (reg : W16) (v : W32) : Check :=
  match tunableOfNumber reg with
  | some t => tunableAllows t v
  | none => fun _ => none

/-- NOP (45_system.md R304). -/
def execNop (s : State) : Host.Outcome State Fault Refusal := command .nop [] (fun r => r) s

/-- RD (45_system.md R301). -/
def execRd (reg : W16) (s : State) : Host.Outcome State Fault Refusal :=
  command (.rd reg) [registerExists reg]
    (fun r =>
      match regOfNumber reg with
      | some x => r.answer fun s => s.regRead x
      | none => r) s

/-- WR (45_system.md R302). -/
def execWr (reg : W16) (value : W32) (s : State) : Host.Outcome State Fault Refusal :=
  command (.wr reg value) [registerWritable reg, notFatal, writeAllowed reg value]
    (fun r =>
      match tunableOfNumber reg with
      | some t => (r.write fun s => s.writeTunable t value).answer fun _ => value
      | none => r) s

/-- Every register and memory cell at its reset value, I2C_TRACE kept (45_system.md R303; log 14). -/
def State.softReset (s : State) : State := State.inert s.cfg s.env s.trace

/-- SRST: the only command that does not count in CMDSEQ (45_system.md R303). -/
def execSrst (s : State) : Host.Outcome State Fault Refusal :=
  .next (s.softReset.respond (responseWord .ok 0))

end Sys2Proof.Machine
end

