-- ==== Sys2Proof/Machine/Ultrasound.lean ====
section
/-! DEFINITION. The ultrasound engine (44_ultrasound.md): the distance formula, the tick step, and
the commands URD, UCANCEL, UGET. Admission: Fatal, then the checks of the command's own rule
(44_ultrasound.md R260). -/

namespace Sys2Proof.Machine

/-- `Dist(T, n)`: unsigned Q16.16 centimetres, floor, saturating (44_ultrasound.md R264). -/
def distance (cfg : Config) (total n : Nat) : W32 :=
  sat32 (total * 1000 * cfg.sosNum * 65536 / (cfg.tickHz * cfg.sosDen * 2 * n))

/-- A change of the engine's registers. -/
def Run.engine (r : Run) (f : Engine → Engine) : Run := r.write fun s => { s with us := f s.us }

/-- A u32 counter up by one, saturating (44_ultrasound.md R265, R274; log 11). -/
def upSat (v : W32) : W32 := sat32 (v.toNat + 1)

/-- `Finish()`'s result (44_ultrasound.md R271). -/
def finishEngine (cfg : Config) (u : Engine) : Engine :=
  if u.cnt = 0 then { u with st := .idle, done := true, res := .timeout, dist := 0 }
  else { u with st := .idle, done := true, res := .ok,
                dist := distance cfg u.total.toNat u.cnt.toNat }

/-- `Finish()` (44_ultrasound.md R265, R271). -/
def Run.finish (r : Run) : Run :=
  (r.leaf (.gpioWrite .trig false)).engine (finishEngine r.state.cfg)

/-- `EndSample()` (44_ultrasound.md R265, R270). -/
def Run.endSample (r : Run) : Run :=
  if r.state.us.idx.toNat < r.state.us.req.toNat then
    r.engine fun u => { u with st := .gap, ctr := r.state.usTune.gap }
  else r.finish

/-- The GAP state (44_ultrasound.md R266). -/
def Run.engineGap (r : Run) : Run :=
  if r.state.us.ctr = 0 then
    (r.leaf (.gpioWrite .trig true)).engine fun u =>
      { u with st := .trig, ctr := r.state.cfg.trigTicks, idx := u.idx + 1 }
  else r.engine fun u => { u with ctr := u.ctr - 1 }

/-- The TRIG state (44_ultrasound.md R267). -/
def Run.engineTrig (r : Run) (e : Bool) : Run :=
  let r := r.engine fun u => { u with ctr := u.ctr - 1 }
  if r.state.us.ctr = 0 then
    (r.leaf (.gpioWrite .trig false)).engine fun u =>
      { u with st := .waitRise, scnt := 0, eprev := e }
  else r

/-- The WAIT_RISE state (44_ultrasound.md R268). -/
def Run.engineWaitRise (r : Run) (e : Bool) : Run :=
  let r := r.engine fun u => { u with scnt := upSat u.scnt }
  let r :=
    if r.state.us.eprev = false ∧ e = true then
      r.engine fun u => { u with stopw := 0, st := .waitFall }
    else if r.state.us.scnt.toNat ≥ r.state.usTune.sampleTo.toNat then r.endSample
    else r
  r.engine fun u => { u with eprev := e }

/-- A completed sample added to the sum and the count (44_ultrasound.md R269). -/
def addSample (offset : W32) (u : Engine) : Engine :=
  { u with total := sat32 (u.total.toNat + (u.stopw.toNat - offset.toNat)), cnt := u.cnt + 1 }

/-- The WAIT_FALL state (44_ultrasound.md R269). -/
def Run.engineWaitFall (r : Run) (e : Bool) : Run :=
  let r := r.engine fun u => { u with scnt := upSat u.scnt, stopw := upSat u.stopw }
  let r :=
    if r.state.us.eprev = true ∧ e = false then
      (r.engine (addSample r.state.usTune.offset)).endSample
    else if r.state.us.scnt.toNat ≥ r.state.usTune.sampleTo.toNat then r.endSample
    else r
  r.engine fun u => { u with eprev := e }

/-- The tick of a running engine, up to the first failing leaf operation (44_ultrasound.md R265,
R272). -/
def Run.engineStep (r : Run) (e : Bool) : Run :=
  let r := r.engine fun u => { u with ocnt := upSat u.ocnt }
  if r.state.usTune.overall ≠ 0 ∧ r.state.us.ocnt.toNat ≥ r.state.usTune.overall.toNat then r.finish
  else
    match r.state.us.st with
    | .idle => r
    | .gap => r.engineGap
    | .trig => r.engineTrig e
    | .waitRise => r.engineWaitRise e
    | .waitFall => r.engineWaitFall e

/-- The engine stopped by a failing leaf operation, recorded with info 2 (60_exceptions.md R333;
log 12). -/
def State.engineFailed (s : State) : State :=
  ({ s with us := { s.us with st := .idle, res := .transport, dist := 0, done := true },
            trig := false } : State).recordError 0 ⟨.transportFailure, 2⟩

/-- Tick step of the engine on the echo level `e` (44_ultrasound.md R265). -/
def State.engineTick (s : State) (e : Bool) : State :=
  if s.us.st = .idle then s
  else
    let r := (Run.start s).engineStep e
    match r.failure with
    | none => r.state
    | some _ => r.state.engineFailed

/-- The registers URD sets before the read starts (44_ultrasound.md R261). -/
def startRead (n : BitVec 8) (u : Engine) : Engine :=
  { u with req := n, idx := 0, cnt := 0, total := 0, ocnt := 0, scnt := 0, stopw := 0,
           eprev := false, res := .none, dist := 0, done := false }

/-- URD (44_ultrasound.md R261). -/
def execUrd (n : BitVec 8) (s : State) : Host.Outcome State Fault Refusal :=
  command (.urd n) [notFatal, engineIdle]
    (fun r =>
      let r := r.engine (startRead n)
      if n = 0 then r.finish else r.engine fun u => { u with st := .gap, ctr := 0 }) s

/-- UCANCEL (44_ultrasound.md R263). -/
def execUcancel (s : State) : Host.Outcome State Fault Refusal :=
  command .ucancel [notFatal]
    (fun r =>
      if r.state.us.st = .idle then r
      else ((r.leaf (.gpioWrite .trig false)).engine fun u =>
        { u with st := .idle, res := .cancelled, dist := 0, done := true }).answer fun _ => 1) s

/-- The outcome UGET reports (44_ultrasound.md R262). -/
def Run.readOutcome (r : Run) : Run :=
  match r.state.us.res with
  | .ok => r.answer fun s => s.us.dist
  | .timeout => r.raise ⟨.sensorTimeout, zext32 r.state.us.idx⟩
  | .cancelled => r.raise ⟨.cancelled, zext32 r.state.us.idx⟩
  | .transport => r.raise ⟨.transportFailure, 0⟩
  | .none => r.raise ⟨.noResult, 0⟩

/-- UGET (44_ultrasound.md R262). -/
def execUget (s : State) : Host.Outcome State Fault Refusal :=
  command .uget [notFatal, engineIdle, resultWaiting]
    (fun r => (r.engine fun u => { u with done := false }).readOutcome) s

end Sys2Proof.Machine
end

