-- ==== Sys2Proof/Machine/Underlight.lean ====
section
/-! DEFINITION. The underlight driver (43_underlight.md). Admission of every command: Fatal, then
NotOpen, for UINIT AlreadyOpen (43_underlight.md R230). -/

namespace Sys2Proof.Machine

/-- The step `SetLight(L, r, g, b)`: the three cells of light L (43_underlight.md R239). -/
def State.setLight (s : State) (light : Fin 6) (r g b : Byte) : State :=
  ((s.memWrite .frame (3 * light.val) r).memWrite .frame (3 * light.val + 1) g).memWrite
    .frame (3 * light.val + 2) b

/-- `for L in 0..5: SetLight(L, r, g, b)` (43_underlight.md R236). -/
def State.setAllLights (s : State) (r g b : Byte) : State :=
  [0, 1, 2, 3, 4, 5].foldl (fun (s : State) (l : Fin 6) => s.setLight l r g b) s

/-- `for i in 0..17: MemWrite(FRAME, i, 0)` (43_underlight.md R231, R232). -/
def State.clearFrame (s : State) : State :=
  (List.range nChannel).foldl (fun s i => s.memWrite .frame i 0) s

/-- The step `CheckRGB(r, g, b)` (43_underlight.md R239). -/
def Run.checkRgb (u : Run) (r g b : W16) : Run :=
  ((u.raiseIf (!componentOk r) ⟨.invalidInput, 0⟩).raiseIf (!componentOk g) ⟨.invalidInput, 1⟩).raiseIf
    (!componentOk b) ⟨.invalidInput, 2⟩

/-- The step `Show()`: values through GAMMA, update, enable (43_underlight.md R233). -/
def Run.showFrame (r : Run) : Run :=
  r.andThen fun r =>
    (r.output ((r.state.bytes18 .frame).map gamma)).i2c (enableBytes r.state.cfg)

/-- `if show = 1 then Show()`. -/
def Run.showIf (r : Run) (showNow : Bool) : Run := if showNow then r.showFrame else r

/-- A light id above 5 raises InvalidInput(0x10 + L) (43_underlight.md R235). -/
def Run.withLight (r : Run) (light : BitVec 4) (k : Fin 6 → Run → Run) : Run :=
  r.withSelector 6 light (0x10 + zext32 light) k

/-- The sector table of `HSV2RGB`, before m is added (43_underlight.md R240). -/
def hsvSector (k cn xn : Nat) : Nat × Nat × Nat :=
  match k with
  | 0 => (cn, xn, 0)
  | 1 => (xn, cn, 0)
  | 2 => (0, cn, xn)
  | 3 => (0, xn, cn)
  | 4 => (xn, 0, cn)
  | _ => (cn, 0, xn)

/-- `HSV2RGB(h, s, v)` (43_underlight.md R240), the three components as bytes. -/
def hsvToRgb (h s v : W16) : Byte × Byte × Byte :=
  let sat := clampUnit (sext16 s)
  let val := clampUnit (sext16 v)
  let hw := (sext16 h % 360).toNat
  let t := hw % 120
  let a := 60 - ((t : Int) - 60).natAbs
  let den := 60 * ONE * ONE
  let cn := 60 * val * sat
  let xn := a * val * sat
  let mn := 60 * val * ONE - cn
  let p := hsvSector (hw / 60) cn xn
  (BitVec.ofNat 8 (rnd (255 * (p.1 + mn)) den),
   BitVec.ofNat 8 (rnd (255 * (p.2.1 + mn)) den),
   BitVec.ofNat 8 (rnd (255 * (p.2.2 + mn)) den))

/-- `(R << 16) | (G << 8) | B` (43_underlight.md R241). -/
def rgbValue (p : Byte × Byte × Byte) : W32 := (0 : Byte) ++ p.1 ++ p.2.1 ++ p.2.2

/-- A failed construction releases the bus handle (43_underlight.md R231). -/
def Run.releaseOnFailure (r : Run) : Run :=
  match r.failure with
  | none => r
  | some _ => { r with state := { r.state with i2cOpen := false } }

/-- Bus writes each attempted whatever the answers, and the mask of those that failed, write k in
bit k (43_underlight.md R232). -/
def State.tryWrites (s : State) (writes : List (List Byte)) (k : Nat) : State × Nat :=
  match writes with
  | [] => (s, 0)
  | w :: rest =>
    let p := s.leaf (.i2cWrite w)
    let q := State.tryWrites p.1 rest (k + 1)
    (q.1, q.2 + if p.2 = .fail then 2 ^ k else 0)

/-- The writes of UFINI in order (43_underlight.md R232). -/
def finiWrites (cfg : Config) : List (List Byte) :=
  [valuesBytes cfg (List.replicate nChannel 0), updateBytes cfg, enableBytes cfg, disableBytes cfg]

/-- UINIT (43_underlight.md R231). -/
def execUinit (s : State) : Host.Outcome State Fault Refusal :=
  command .uinit [notFatal, busClosed]
    (fun r => (((((r.write fun s => ({ s with i2cOpen := true } : State).clearFrame).i2c
      (resetBytes r.state.cfg)).i2c (maskBytes r.state.cfg 0x3FFFF)).i2c (updateBytes r.state.cfg)).i2c
      (disableBytes r.state.cfg)).releaseOnFailure) s

/-- UFINI: every write attempted, the handle released, the failures reported together
(43_underlight.md R232). -/
def execUfini (s : State) : Host.Outcome State Fault Refusal :=
  command .ufini [notFatal, busOpen]
    (fun r =>
      let p := r.state.clearFrame.tryWrites (finiWrites r.state.cfg) 0
      (r.write fun _ => { p.1 with i2cOpen := false }).raiseIf (p.2 != 0)
        ⟨.transportFailure, BitVec.ofNat 32 p.2⟩) s

/-- USET (43_underlight.md R235). -/
def execUset (light : BitVec 4) (showNow : Bool) (r g b : W16) (s : State) :
    Host.Outcome State Fault Refusal :=
  command (.uset light showNow r g b) [notFatal, busOpen]
    (fun u => u.withLight light fun l u =>
      ((u.checkRgb r g b).write fun s =>
        s.setLight l (componentByte r) (componentByte g) (componentByte b)).showIf showNow) s

/-- UFILL (43_underlight.md R236). -/
def execUfill (showNow : Bool) (r g b : W16) (s : State) : Host.Outcome State Fault Refusal :=
  command (.ufill showNow r g b) [notFatal, busOpen]
    (fun u => ((u.checkRgb r g b).write fun s =>
      s.setAllLights (componentByte r) (componentByte g) (componentByte b)).showIf showNow) s

/-- UCLR (43_underlight.md R237). -/
def execUclr (light : BitVec 4) (showNow : Bool) (s : State) : Host.Outcome State Fault Refusal :=
  command (.uclr light showNow) [notFatal, busOpen]
    (fun u => u.withLight light fun l u => (u.write fun s => s.setLight l 0 0 0).showIf showNow) s

/-- UCLRALL (43_underlight.md R238). -/
def execUclrall (showNow : Bool) (s : State) : Host.Outcome State Fault Refusal :=
  command (.uclrall showNow) [notFatal, busOpen]
    (fun u => (u.write fun s => s.setAllLights 0 0 0).showIf showNow) s

/-- USHOW (43_underlight.md R234). -/
def execUshow (s : State) : Host.Outcome State Fault Refusal :=
  command .ushow [notFatal, busOpen] (fun u => u.showFrame) s

/-- UHSV (43_underlight.md R241). -/
def execUhsv (light : BitVec 4) (showNow : Bool) (h sat v : W16) (s : State) :
    Host.Outcome State Fault Refusal :=
  command (.uhsv light showNow h sat v) [notFatal, busOpen]
    (fun u => u.withLight light fun l u =>
      let p := hsvToRgb h sat v
      ((u.write fun s => s.setLight l p.1 p.2.1 p.2.2).showIf showNow).answer
        fun _ => rgbValue p) s

/-- UFILLHSV (43_underlight.md R242). -/
def execUfillhsv (showNow : Bool) (h sat v : W16) (s : State) : Host.Outcome State Fault Refusal :=
  command (.ufillhsv showNow h sat v) [notFatal, busOpen]
    (fun u =>
      let p := hsvToRgb h sat v
      ((u.write fun s => s.setAllLights p.1 p.2.1 p.2.2).showIf showNow).answer
        fun _ => rgbValue p) s

end Sys2Proof.Machine
end

