-- ==== Sys2Proof/Machine/Dispatch.lean ====
section
/-! DEFINITION. Which meaning each command has (30_encoding.md R95). -/

namespace Sys2Proof.Machine

/-- The meaning of a command. -/
def exec (i : Instr) (s : State) : Host.Outcome State Fault Refusal :=
  match i with
  | .nop => Sys2Proof.Machine.execNop s
  | .rd reg => Sys2Proof.Machine.execRd reg s
  | .wr reg value => Sys2Proof.Machine.execWr reg value s
  | .srst => Sys2Proof.Machine.execSrst s
  | .mset motor speed => Sys2Proof.Machine.execMset motor speed s
  | .mboth speed => Sys2Proof.Machine.execMboth speed s
  | .mdis => Sys2Proof.Machine.execMdis s
  | .mfwd speed => Sys2Proof.Machine.execMfwd speed s
  | .mbwd speed => Sys2Proof.Machine.execMbwd speed s
  | .mtl speed => Sys2Proof.Machine.execMtl speed s
  | .mtr speed => Sys2Proof.Machine.execMtr speed s
  | .mcfl speed => Sys2Proof.Machine.execMcfl speed s
  | .mcfr speed => Sys2Proof.Machine.execMcfr speed s
  | .mcbl speed => Sys2Proof.Machine.execMcbl speed s
  | .mcbr speed => Sys2Proof.Machine.execMcbr speed s
  | .mstop => Sys2Proof.Machine.execMstop s
  | .mcoast => Sys2Proof.Machine.execMcoast s
  | .bled button intensity => Sys2Proof.Machine.execBled button intensity s
  | .bledb button on => Sys2Proof.Machine.execBledb button on s
  | .bledall intensity => Sys2Proof.Machine.execBledall intensity s
  | .bledallb on => Sys2Proof.Machine.execBledallb on s
  | .bhold button => Sys2Proof.Machine.execBhold button s
  | .bsub slot mask => Sys2Proof.Machine.execBsub slot mask s
  | .bunsub slot mask => Sys2Proof.Machine.execBunsub slot mask s
  | .back slot mask => Sys2Proof.Machine.execBack slot mask s
  | .bblink interval => Sys2Proof.Machine.execBblink interval s
  | .snen => Sys2Proof.Machine.execSnen s
  | .sndis => Sys2Proof.Machine.execSndis s
  | .snrst => Sys2Proof.Machine.execSnrst s
  | .snmask mask => Sys2Proof.Machine.execSnmask mask s
  | .snupd => Sys2Proof.Machine.execSnupd s
  | .snout len => Sys2Proof.Machine.execSnout len s
  | .snoutr len => Sys2Proof.Machine.execSnoutr len s
  | .stw idx v => Sys2Proof.Machine.execStw idx v s
  | .str idx => Sys2Proof.Machine.execStr idx s
  | .uinit => Sys2Proof.Machine.execUinit s
  | .ufini => Sys2Proof.Machine.execUfini s
  | .uset light showNow r g b => Sys2Proof.Machine.execUset light showNow r g b s
  | .ufill showNow r g b => Sys2Proof.Machine.execUfill showNow r g b s
  | .uclr light showNow => Sys2Proof.Machine.execUclr light showNow s
  | .uclrall showNow => Sys2Proof.Machine.execUclrall showNow s
  | .ushow => Sys2Proof.Machine.execUshow s
  | .uhsv light showNow h sat v => Sys2Proof.Machine.execUhsv light showNow h sat v s
  | .ufillhsv showNow h sat v => Sys2Proof.Machine.execUfillhsv showNow h sat v s
  | .urd n => Sys2Proof.Machine.execUrd n s
  | .ucancel => Sys2Proof.Machine.execUcancel s
  | .uget => Sys2Proof.Machine.execUget s

end Sys2Proof.Machine
end

