-- ==== Sys2Proof/Machine/Tick.lean ====
section
/-! DEFINITION. What a step reads and runs besides a command: the environment's next input (log 1),
the tick step (00_scope.md R7), the reset pin (70_reset_and_hazards.md R360), and the answer to a
word that is no command (30_encoding.md R96). -/

namespace Sys2Proof.Machine

/-- The next input of the environment, and the state with it taken: the oldest one listed, or a
free value when the list is used up (log 1). -/
def State.nextInput (s : State) : Input × State :=
  match s.env.pending with
  | x :: rest => (x, { s with env := { s.env with pending := rest } })
  | [] => (Config.freeInput s.env.drawn, { s with env := { s.env with drawn := s.env.drawn + 1 } })

/-- `NOW <- (NOW + 1) mod 2^32` (10_state.md R25). -/
def State.advanceNow (s : State) : State := { s with now := s.now + 1 }

/-- The four button channels in the order A, B, X, Y (00_scope.md R7). -/
def State.buttonTicks (s : State) (smp : Sample) : State :=
  (((s.buttonTick 0 smp.btn.c0).buttonTick 1 smp.btn.c1).buttonTick 2 smp.btn.c2).buttonTick 3
    smp.btn.c3

/-- A tick step: NOW, the button channels, the blink timer, the ultrasound engine (00_scope.md
R7). -/
def State.tickStep (s : State) (smp : Sample) : State :=
  ((s.advanceNow.buttonTicks smp).blinkTick).engineTick smp.echo

/-- The reset pin: every register at its reset value and I2C_TRACE empty (70_reset_and_hazards.md
R360; log 14). -/
def State.hardReset (s : State) : State := State.inert s.cfg s.env []

/-- A word that is no command: InvalidCommand with info OPC, nothing else done (30_encoding.md
R96). -/
def State.illegalWord (s : State) (cw : W64) (e : DecodeError) : State :=
  s.endFailed cw ⟨.invalidCommand, zext32 (decodeErrorOpcode e)⟩

/-- The word `w`, presented as the next command (log 3). -/
def State.presentWord (s : State) (w : W64) : State :=
  { s with env := { s.env with pending := .command w :: s.env.pending } }

end Sys2Proof.Machine
end

