-- ==== Sys2Proof/Machine/Step.lean ====
section
/-! DEFINITION. One step of TPC: the environment's next input, done (00_scope.md R6, R7). -/

namespace Sys2Proof.Machine

/-- One step: a tick step, a command, an illegal word, or the reset pin. -/
def step (s : State) : Host.Outcome State Fault Refusal :=
  match s.nextInput.1 with
  | .tick smp => .next (s.nextInput.2.tickStep smp)
  | .rst => .next s.nextInput.2.hardReset
  | .command cw =>
    match decode cw with
    | .ok i => exec i s.nextInput.2
    | .error e => .next (s.nextInput.2.illegalWord cw e)

/-- The state in which the word of `nbits` bits `w` is the next input the step takes (log 3). -/
def State.withFetchWord (s : State) (nbits w : Nat) : State :=
  s.presentWord (BitVec.ofNat 64 (w % 2 ^ nbits))

end Sys2Proof.Machine
end

