-- ==== Sys2Proof/Safety.lean ====
section
/-! DEFINITION. The terms the statements are written in: what the environment offers, how a state
looks after a command that ended well or badly, the bus writes of a show, and the invariant every
step keeps. They are written out from the rules, not by calling the machine's own operations. -/

namespace Sys2Proof

/-! ### Commands by what they need -/

/-- The commands 60_exceptions.md R320 lists under NotOpen. -/
def Instr.needsBus (i : Instr) : Prop :=
  i ∈ [.snen, .sndis, .snrst, .snupd, .ufini, .ushow] ∨ (∃ m, i = .snmask m) ∨
  (∃ n, i = .snout n) ∨ (∃ n, i = .snoutr n) ∨ (∃ l sh r g b, i = .uset l sh r g b) ∨
  (∃ sh r g b, i = .ufill sh r g b) ∨ (∃ l sh, i = .uclr l sh) ∨ (∃ sh, i = .uclrall sh) ∨
  (∃ l sh h s v, i = .uhsv l sh h s v) ∨ (∃ sh h s v, i = .ufillhsv sh h s v)

/-- The commands that need the idle engine (60_exceptions.md R327). -/
def Instr.needsIdle (i : Instr) : Prop :=
  (∃ n, i = .urd n) ∨ i = .uget ∨ (∃ n v, i = .wr n v ∧ 0x080 ≤ n.toNat ∧ n.toNat ≤ 0x083)

/-- The commands admitted while FATAL = 1 (60_exceptions.md R332). -/
def Instr.fatalExempt (i : Instr) : Prop := i = .nop ∨ i = .srst ∨ ∃ n, i = .rd n

/-- The commands that go through `SetSpeed` (40_motor.md R121): every motor command but MDIS and
MCOAST (10_state.md R26). -/
def Instr.setsSpeed (i : Instr) : Prop :=
  i = .mstop ∨ (∃ m v, i = .mset m v) ∨
  ∃ v, i ∈ [.mboth v, .mfwd v, .mbwd v, .mtl v, .mtr v, .mcfl v, .mcfr v, .mcbl v, .mcbr v]

end Sys2Proof

namespace Sys2Proof.Machine

/-! ### The environment -/

/-- The environment's next input in state `s` is `x`, and `s'` is the state with it taken
(00_scope.md R7; log 1). -/
def State.Offers (s : State) (x : Input) (s' : State) : Prop :=
  (∃ rest, s.env.pending = x :: rest ∧ s' = { s with env := { s.env with pending := rest } }) ∨
  (s.env.pending = [] ∧ Config.freeInput s.env.drawn = x ∧
    s' = { s with env := { s.env with drawn := s.env.drawn + 1 } })

/-- The next `n` leaf operations asked are answered `ok` (00_scope.md R9). -/
def State.AnswersOk (s : State) (n : Nat) : Prop :=
  ∀ k, k < n → s.answerAt (s.env.asked + k) = .ok

/-- The next `n` PWM and GPIO leaf operations succeed: always, unless LEAF_CAN_FAIL is set and the
environment fails one (00_scope.md R9). -/
def State.LeavesOk (s : State) (n : Nat) : Prop := s.cfg.leafCanFail = true → s.AnswersOk n

/-- `n` PWM or GPIO leaf operations were made; they are asked only with LEAF_CAN_FAIL (log 2). -/
def State.leavesMade (s : State) (n : Nat) : State :=
  { s with env := { s.env with asked := s.env.asked + if s.cfg.leafCanFail then n else 0 } }

/-- An entry of I2C_TRACE, made to the device address I2C_ADDR (00_scope.md R9, 20_memory.md R66). -/
def busEntry (cfg : Config) (a : Answer) (bytes : List Byte) : BusWrite := ⟨cfg.i2cAddr, bytes, a⟩

/-- The given bus writes were made, in order, each answered `ok` (20_memory.md R66). -/
def State.busMade (s : State) (writes : List (List Byte)) : State :=
  { s with trace := s.trace ++ writes.map (busEntry s.cfg .ok),
           env := { s.env with asked := s.env.asked + writes.length } }

/-- The next `k` leaf operations asked are answered `ok` and the one after them `fail`
(00_scope.md R9). -/
def State.FailsAt (s : State) (k : Nat) : Prop :=
  s.AnswersOk k ∧ s.answerAt (s.env.asked + k) = .fail

/-- Of the given bus writes the first `k` were made and answered `ok`, and write `k` was answered
`fail`; the ones after it were not made (20_memory.md R66, 60_exceptions.md R331). -/
def State.busFailed (s : State) (writes : List (List Byte)) (k : Nat) : State :=
  { s with trace := s.trace ++ (writes.take k).map (busEntry s.cfg .ok) ++
             ((writes.drop k).take 1).map (busEntry s.cfg .fail),
           env := { s.env with asked := s.env.asked + (k + 1) } }

/-! ### The end of a command -/

/-- After `respond OK, value v` (45_system.md R300). -/
def State.afterOk (s : State) (v : W32) : State :=
  { s with cmdseq := s.cmdseq + 1,
           env := { s.env with responses := s.env.responses ++ [(0x00 : BitVec 8) ++ (0 : BitVec 24) ++ v] } }

/-- After `raise E(info)` in the command with word `cw` (45_system.md R300, 60_exceptions.md
R330). -/
def State.afterError (s : State) (cw : W64) (e : Status) (info : W32) : State :=
  { s with cmdseq := s.cmdseq + 1,
           err := { lasterr := e, errseq := s.cmdseq, errcmd := cw, errinfo := info,
                    fatal := if e = .transportFailure then true else s.err.fatal },
           env := { s.env with responses := s.env.responses ++ [e.code ++ (0 : BitVec 24) ++ info] } }

/-- The status field of a response word (30_encoding.md R94). -/
def statusField (rsp : W64) : BitVec 8 := rsp.extractLsb' 56 8

/-- The value field of a response word (30_encoding.md R94). -/
def valueField (rsp : W64) : W32 := rsp.extractLsb' 0 32

/-- `t` differs from `s` at most in CMDSEQ, the error record and the responses returned. -/
def State.OnlyRecorded (s t : State) : Prop :=
  t = { s with cmdseq := t.cmdseq, err := t.err,
               env := { s.env with responses := t.env.responses } }

/-! ### Motors -/

/-- A motor after `SetSpeed` with the integer `v`: the speed clamped to -1..1 and the duties of the
three lines of 40_motor.md R122. -/
def motorAt (cfg : Config) (v : Int) : Motor :=
  let c := max (-16384) (min v 16384)
  if c > 0 then ⟨BitVec.ofInt 16 c, BitVec.ofInt 16 16384, BitVec.ofInt 16 (16384 - c)⟩
  else if c < 0 then ⟨BitVec.ofInt 16 c, BitVec.ofInt 16 (16384 + c), BitVec.ofInt 16 16384⟩
  else ⟨0, BitVec.ofInt 16 16384, cfg.brakeNegDuty⟩

/-! ### The ultrasound engine -/

/-- A u32 counter up by one, saturating (44_ultrasound.md R265, R274). -/
def countUp (v : W32) : W32 := BitVec.ofNat 32 (min (v.toNat + 1) (2 ^ 32 - 1))

/-- The registers of a finished read (44_ultrasound.md R271). -/
def readFinished (cfg : Config) (u : Engine) : Engine :=
  { u with st := .idle, done := true, res := if u.cnt = 0 then .timeout else .ok,
           dist := if u.cnt = 0 then 0 else distance cfg u.total.toNat u.cnt.toNat }

/-- The read of `s` finished, with the engine's other registers as in `u` (44_ultrasound.md
R271). -/
def State.finished (s : State) (u : Engine) : State :=
  { s with us := readFinished s.cfg u, trig := false }.leavesMade 1

/-- A sample of `s` ended, with the engine's registers as in `u`: the next cycle, or the end of the
read (44_ultrasound.md R270). -/
def State.sampleOver (s : State) (u : Engine) : State :=
  if u.idx.toNat < u.req.toNat then { s with us := { u with st := .gap, ctr := s.usTune.gap } }
  else s.finished u

/-! ### Bus writes -/

/-- The three bus writes of a show of the frame whose bytes are `read` (43_underlight.md R233). -/
def showWrites (cfg : Config) (read : Nat → Byte) : List (List Byte) :=
  [cfg.cmdSetval :: (List.range 18).map (fun i => gamma (read i)), [cfg.cmdUpdate, cfg.updData],
   [cfg.cmdEnable, cfg.enData]]

/-- The bus writes of `if show = 1 then Show()`. -/
def showWritesIf (showNow : Bool) (cfg : Config) (read : Nat → Byte) : List (List Byte) :=
  if showNow then showWrites cfg read else []

/-- The byte lists TPC may hand to the bus (20_memory.md R65). -/
def BusForm (cfg : Config) (b : List Byte) : Prop :=
  b = [cfg.cmdEnable, cfg.enData] ∨ b = [cfg.cmdEnable, cfg.disData] ∨
  (∃ vs, b = cfg.cmdSetval :: vs ∧ vs.length = 18) ∨
  (∃ m0 m1 m2 : Byte,
    b = [cfg.cmdLeds, m0, m1, m2] ∧ m0.toNat < 64 ∧ m1.toNat < 64 ∧ m2.toNat < 64) ∨
  b = [cfg.cmdUpdate, cfg.updData] ∨ b = [cfg.cmdReset, cfg.rstData]

/-! ### The frame of a memory write -/

/-- Light `l` of the frame `f'` is (r, g, b) and every other byte is that of `f` (20_memory.md
R61). -/
def LightWritten (f f' : Memory) (l : Nat) (r g b : Byte) : Prop :=
  ∀ a, f'.read a = if a = 3 * l then r else if a = 3 * l + 1 then g else if a = 3 * l + 2 then b
    else f.read a

/-- Every light of the frame `f'` is (r, g, b), and nothing beyond the frame is touched. -/
def AllLightsWritten (f f' : Memory) (r g b : Byte) : Prop :=
  ∀ a, f'.read a =
    if a < 18 then (if a % 3 = 0 then r else if a % 3 = 1 then g else b) else f.read a

/-! ### Ticks -/

/-- Tick steps with the given samples, one after the other (00_scope.md R7). -/
def State.afterTicks (s : State) (samples : List Sample) : State := samples.foldl State.tickStep s

/-! ### Reset -/

/-- Every register and memory cell holds its value in the table of 10_state.md R44, the tunables
the defaults of the parameters. -/
structure State.AtResetValues (s : State) : Prop where
  ident : s.regRead .id = 0x54504301
  sequence : s.cmdseq = 0 ∧ s.now = 0
  record : s.err = ⟨.ok, 0, 0, 0, false⟩
  motors : ∀ m, s.motors.get m = ⟨0, 0, 0⟩
  motorLine : s.motorEn = false
  buttons : s.btnEn = true
  buttonTunables : s.btnTune = ⟨s.cfg.debounceDefault, s.cfg.dpwinDefault, s.cfg.holdminDefault⟩
  channels : ∀ b, s.channels.get b = ⟨true, 0, .idle, .none, false, 0, false, 0, 0⟩
  leds : ∀ b, s.ledDuty.get b = 0
  blink : s.blinkActive = false ∧ s.blinkTimer = 0
  slots : s.subs.length = s.cfg.nSub ∧ ∀ i, s.slot i = ⟨0, 0⟩
  counts : ∀ b, s.evcnt.get b = ⟨0, 0, 0⟩
  bus : s.i2cOpen = false
  frame : ∀ a, s.frame.read a = 0
  stage : ∀ a, s.stage.read a = 0
  usTunables : s.usTune =
    ⟨s.cfg.usOffsetDefault, s.cfg.usSampleToDefault, s.cfg.usOverallDefault, s.cfg.usGapDefault⟩
  engine : s.us = ⟨.idle, 0, 0, 0, 0, 0, 0, false, 0, 0, .none, 0, false⟩
  trigLine : s.trig = false
  lines : (∀ i, s.irqSub i = false) ∧ s.irqUs = false ∧ s.irqFatal = false

/-! ### The invariant -/

/-- SPEED in -ONE..ONE and duties in 0..ONE (10_state.md R26, R27). -/
abbrev Motor.Inv (m : Motor) : Prop :=
  -16384 ≤ m.speed.toInt ∧ m.speed.toInt ≤ 16384 ∧ m.dutyP.toNat ≤ 16384 ∧ m.dutyN.toNat ≤ 16384

/-- What 41_button.md R160 and 10_state.md R32 say every step keeps of a channel; a torn-down
channel is idle (R166); and a counter that counts never passes the end of its register (log 10). -/
abbrev Channel.Inv (enabled : Bool) (c : Channel) : Prop :=
  (c.gst = .idle ↔ c.level = true) ∧ (c.holding = true ↔ c.holdsub = .started) ∧
  (c.holdsub = .started → c.gst = .hold) ∧ c.dbcnt.toNat < u32Max ∧
  ((c.gst = .pressed ∨ c.gst = .double) → c.holdcnt.toNat < u32Max) ∧
  (enabled = false →
    c.level = true ∧ c.dbcnt = 0 ∧ c.holdcnt = 0 ∧ c.dparmed = false ∧ c.dptimer = 0)

/-- A pending event is a subscribed one (41_button.md R171, R173). -/
abbrev Subscriber.Inv (u : Subscriber) : Prop := u.pend &&& ~~~u.mask = 0

/-- The counts and phases of the engine (44_ultrasound.md R265 to R274) and what US_RES, US_DONE
and US_DIST say of each other (10_state.md R41, 44_ultrasound.md R262). -/
abbrev Engine.Inv (cfg : Config) (t : UsTunables) (u : Engine) : Prop :=
  u.cnt.toNat ≤ u.idx.toNat ∧ u.idx.toNat ≤ u.req.toNat ∧
  (u.st = .gap → u.idx.toNat < u.req.toNat) ∧
  ((u.st = .trig ∨ u.st = .waitRise ∨ u.st = .waitFall) → u.cnt.toNat < u.idx.toNat) ∧
  (u.st = .trig → 1 ≤ u.ctr.toNat ∧ u.ctr.toNat ≤ cfg.trigTicks.toNat) ∧
  (u.st = .waitRise → u.scnt = 0 ∨ u.scnt.toNat < t.sampleTo.toNat) ∧
  (u.st = .waitFall → u.eprev = true ∧ u.stopw.toNat ≤ u.scnt.toNat ∧
    u.scnt.toNat ≤ max t.sampleTo.toNat 1) ∧
  (u.st ≠ .idle → u.done = false ∧ u.res = .none) ∧ (u.done = true → u.res ≠ .none) ∧
  (u.res ≠ .ok → u.dist = 0)

/-- What every step keeps. -/
structure State.Inv (s : State) : Prop where
  cfg : s.cfg.Legal
  frame : s.frame.Wf 18
  stage : s.stage.Wf s.cfg.stageSize
  motors : ∀ m, (s.motors.get m).Inv
  channels : ∀ b, (s.channels.get b).Inv s.btnEn
  leds : ∀ b, (s.ledDuty.get b).toNat ≤ 16384
  blink : s.blinkActive = false → s.blinkTimer = 0
  slotCount : s.subs.length = s.cfg.nSub
  subs : ∀ i, (s.slot i).Inv
  trace : ∀ w ∈ s.trace, w.address = s.cfg.i2cAddr ∧ BusForm s.cfg w.bytes
  engine : s.us.Inv s.cfg s.usTune
  trigLine : s.trig = true → s.us.st = .trig
  transportRead : s.us.res = .transport → s.err.fatal = true
  transportError : s.err.lasterr = .transportFailure → s.err.fatal = true

end Sys2Proof.Machine
end

