-- ==== Sys2Proof/WellFormed.lean ====
section
/-! DEFINITION. Which command terms pass step 2 of the admission checks (60_exceptions.md R325):
the must-be-zero bits hold by the types of the operands, so what is left is that the register of RD
exists and that the register of WR exists and is RW (10_state.md R22). The operand range checks of
step 5 are the commands' own (30_encoding.md R96 (d)) and no matter of form. -/

namespace Sys2Proof

/-- Register number `n` lies in `lo .. lo + count - 1`. -/
def inRun (n lo count : Nat) : Bool := decide (lo ≤ n ∧ n < lo + count)

/-- The runs of register numbers of the map of 10_state.md R22, as (first number, how many). -/
def registerRuns : List (Nat × Nat) :=
  [(0x000, 9), (0x010, 6), (0x020, 9), (0x030, 20), (0x050, 8), (0x060, 12), (0x080, 4),
   (0x088, 10), (0x0A0, 18), (0x100, 256)]

/-- The runs of register numbers marked RW in 10_state.md R22. -/
def writableRuns : List (Nat × Nat) := [(0x020, 4), (0x080, 4)]

/-- Step 2 of 60_exceptions.md R325 on a decoded command. -/
def Instr.wellFormed : Instr → Bool
  | .rd reg => registerRuns.any fun r => inRun reg.toNat r.1 r.2
  | .wr reg _ => writableRuns.any fun r => inRun reg.toNat r.1 r.2
  | .nop => true
  | .srst => true
  | .mset _ _ => true
  | .mboth _ => true
  | .mdis => true
  | .mfwd _ => true
  | .mbwd _ => true
  | .mtl _ => true
  | .mtr _ => true
  | .mcfl _ => true
  | .mcfr _ => true
  | .mcbl _ => true
  | .mcbr _ => true
  | .mstop => true
  | .mcoast => true
  | .bled _ _ => true
  | .bledb _ _ => true
  | .bledall _ => true
  | .bledallb _ => true
  | .bhold _ => true
  | .bsub _ _ => true
  | .bunsub _ _ => true
  | .back _ _ => true
  | .bblink _ => true
  | .snen => true
  | .sndis => true
  | .snrst => true
  | .snmask _ => true
  | .snupd => true
  | .snout _ => true
  | .snoutr _ => true
  | .stw _ _ => true
  | .str _ => true
  | .uinit => true
  | .ufini => true
  | .uset _ _ _ _ _ => true
  | .ufill _ _ _ _ => true
  | .uclr _ _ => true
  | .uclrall _ => true
  | .ushow => true
  | .uhsv _ _ _ _ _ => true
  | .ufillhsv _ _ _ _ => true
  | .urd _ => true
  | .ucancel => true
  | .uget => true

end Sys2Proof
end

