-- ==== Sys2Proof/Certificates/Slice0/Obligations.lean ====
section
/-! DEFINITION. The statements for the provers, taken from the numbered rules of spec/. A statement
of a command's result is an equation: what it does not name is as before. -/

open Sys2Proof Sys2Proof.Machine

/-! ### Encoding -/

/-- Decoding the word of a command gives the command back, every operand at every value. -/
def Obligations.DecodeOfEncodeIsTheCommand : Prop := ∀ i : Instr, decode (encode i) = .ok i

/-- A word that decodes is the word of its command: the decoder drops no bit. -/
def Obligations.EncodeOfDecodeIsTheWord : Prop :=
  ∀ (cw : W64) (i : Instr), decode cw = .ok i → encode i = cw

/-- The words that decode are the words that match a row of the opcode table; a word matches at most
one row; and a word that matches none is reported with its opcode. -/
def Obligations.DecodeAcceptsExactlyTheTableRows : Prop :=
  (∀ cw : W64, (∃ i, decode cw = .ok i) ↔ ∃ row ∈ opcodeTable, rowMatches row cw = true) ∧
  (∀ cw : W64, ∀ x ∈ opcodeTable, ∀ y ∈ opcodeTable,
    rowMatches x cw = true → rowMatches y cw = true → x = y) ∧
  ∀ (cw : W64) (e : DecodeError), decode cw = .error e → decodeErrorOpcode e = cw.extractLsb' 56 8

/-- Words written out by the rules of the commands decode to the commands they stand for. -/
def Obligations.SpecWordsDecode : Prop :=
  decode 0x0200002200_07A120 = .ok (.wr 0x022 500000) ∧
  decode 0x1000000000002000 = .ok (.mset 0 0x2000) ∧
  decode 0x2130000000000001 = .ok (.bledb 3 true) ∧
  decode 0x2500000000000002 = .ok (.bsub 0 0x002) ∧
  decode 0x280000000007A120 = .ok (.bblink 500000) ∧
  decode 0x330000000003FFFF = .ok (.snmask 0x3FFFF) ∧
  decode 0x3700000000010080 = .ok (.stw 1 0x80) ∧
  decode 0x421100FF00800000 = .ok (.uset 1 true 255 128 0) ∧
  decode 0x480100C820002000 = .ok (.ufillhsv true 200 0x2000 0x2000) ∧
  decode 0x5000000000000003 = .ok (.urd 3)

/-! ### A step -/

/-- A step that is offered the word of a command runs the command; in particular the word placed by
`withFetchWord` is the next one run. -/
def Obligations.StepRunsTheDecodedCommand : Prop :=
  (∀ (s s' : State) (cw : W64) (i : Instr), s.Offers (.command cw) s' → decode cw = .ok i →
    step s = exec i s') ∧
  ∀ (s : State) (i : Instr), step (s.withFetchWord 64 (encode i).toNat) = exec i s

/-- A step that is offered a tick runs the agents in their order; one that is offered a word that is
no command answers InvalidCommand with the opcode and changes nothing else. -/
def Obligations.StepRunsTicksAndAnswersIllegalWords : Prop :=
  ∀ s s' : State,
    (∀ smp, s.Offers (.tick smp) s' →
      step s = .next
        (((((({ s' with now := s'.now + 1 } : State).buttonTick 0 smp.btn.c0).buttonTick 1
          smp.btn.c1).buttonTick 2 smp.btn.c2).buttonTick 3 smp.btn.c3).blinkTick.engineTick
          smp.echo)) ∧
    (∀ (cw : W64) (e : DecodeError), s.Offers (.command cw) s' → decode cw = .error e →
      step s = .next
        (s'.afterError cw .invalidCommand ((cw.extractLsb' 56 8 : BitVec 8).setWidth 32)))

/-! ### System commands and registers -/

/-- NOP is the all-zero word, counts, and does nothing else, also while FATAL = 1; a word with its
opcode and any other bit set is InvalidCommand. -/
def Obligations.NopOnlyCounts : Prop :=
  encode .nop = 0 ∧ decode 0 = .ok .nop ∧ (∀ s : State, exec .nop s = .next (s.afterOk 0)) ∧
  ∀ (s s' : State) (cw : W64), s.Offers (.command cw) s' → cw.extractLsb' 56 8 = (0 : BitVec 8) →
    cw ≠ 0 → step s = .next (s'.afterError cw .invalidCommand 0)

/-- RD of every register number of the map but STATUS, in every state: the register's value,
zero-extended but for SPEED, and no other effect than the count; and the numbers of the values of
GST, HOLDSUB, US_ST and US_RES. -/
def Obligations.ReadReturnsTheRegister : Prop :=
  [Gesture.idle, .pressed, .double, .hold].map Gesture.code = [0, 1, 2, 3] ∧
  [HoldSub.none, .started, .completed, .canceled].map HoldSub.code = [0, 1, 2, 3] ∧
  [UsState.idle, .gap, .trig, .waitRise, .waitFall].map UsState.code = [0, 1, 2, 3, 4] ∧
  [UsResult.none, .ok, .timeout, .cancelled, .transport].map UsResult.code = [0, 1, 2, 3, 4] ∧
  ∀ s : State,
    let reads : Nat → W32 → Prop := fun n v =>
      exec (.rd (BitVec.ofNat 16 n)) s = .next (s.afterOk v)
    reads 0x000 0x54504301 ∧ reads 0x001 s.cmdseq ∧ reads 0x002 s.now ∧
    reads 0x004 (s.err.lasterr.code.setWidth 32) ∧ reads 0x005 s.err.errseq ∧
    reads 0x006 (s.err.errcmd.extractLsb' 32 32) ∧ reads 0x007 (s.err.errcmd.extractLsb' 0 32) ∧
    reads 0x008 s.err.errinfo ∧
    (∀ m : Fin 2, reads (0x010 + m) ((s.motors.get m).speed.signExtend 32) ∧
      reads (0x012 + 2 * m) ((s.motors.get m).dutyP.setWidth 32) ∧
      reads (0x013 + 2 * m) ((s.motors.get m).dutyN.setWidth 32)) ∧
    reads 0x020 (if s.btnEn then 1 else 0) ∧ reads 0x021 s.btnTune.debounce ∧
    reads 0x022 s.btnTune.dpwin ∧ reads 0x023 s.btnTune.holdmin ∧ reads 0x028 s.blinkTimer ∧
    (∀ b : Fin 4, let c := s.channels.get b
      reads (0x024 + b) ((s.ledDuty.get b).setWidth 32) ∧
      reads (0x030 + b) ((BitVec.ofBool c.dparmed ++ c.holdsub.code ++ c.gst.code ++
        BitVec.ofBool c.holding ++ BitVec.ofBool c.level).setWidth 32) ∧
      reads (0x034 + b) c.lastpress ∧ reads (0x038 + b) c.dptimer ∧
      reads (0x03C + b) c.holdcnt ∧ reads (0x040 + b) c.dbcnt ∧
      reads (0x050 + b) ((s.slot b).mask.setWidth 32) ∧
      reads (0x054 + b) ((s.slot b).pend.setWidth 32) ∧
      reads (0x060 + 3 * b) (s.evcnt.get b).press ∧
      reads (0x061 + 3 * b) (s.evcnt.get b).double ∧
      reads (0x062 + 3 * b) (s.evcnt.get b).hold) ∧
    reads 0x080 s.usTune.offset ∧ reads 0x081 s.usTune.sampleTo ∧ reads 0x082 s.usTune.overall ∧
    reads 0x083 s.usTune.gap ∧
    reads 0x088 ((BitVec.ofBool s.us.eprev ++ BitVec.ofBool s.us.done ++ (0 : BitVec 1) ++
      s.us.res.code ++ (0 : BitVec 1) ++ s.us.st.code).setWidth 32) ∧
    reads 0x089 s.us.dist ∧ reads 0x08A s.us.total ∧ reads 0x08B (s.us.cnt.setWidth 32) ∧
    reads 0x08C (s.us.req.setWidth 32) ∧ reads 0x08D (s.us.idx.setWidth 32) ∧
    reads 0x08E s.us.stopw ∧ reads 0x08F s.us.scnt ∧ reads 0x090 s.us.ocnt ∧
    reads 0x091 s.us.ctr ∧
    (∀ i : Fin 18, reads (0x0A0 + i) ((s.frame.read i).setWidth 32)) ∧
    ∀ i : Fin 256, reads (0x100 + i) ((gamma (BitVec.ofNat 8 i)).setWidth 32)

/-- STATUS, read by RD 0x003, holds each flag in its bit. -/
def Obligations.StatusReadsTheFlags : Prop :=
  ∀ s : State, ∃ v : W32, exec (.rd 0x003) s = .next (s.afterOk v) ∧ v.toNat < 256 ∧
    v.getLsbD 0 = s.err.fatal ∧ v.getLsbD 1 = s.i2cOpen ∧ v.getLsbD 2 = s.motorEn ∧
    v.getLsbD 3 = s.trig ∧ (v.getLsbD 4 = true ↔ s.us.st ≠ .idle) ∧ v.getLsbD 5 = s.us.done ∧
    v.getLsbD 6 = s.blinkActive ∧ v.getLsbD 7 = s.btnEn

/-- The ill-formed commands are RD of a number outside the register map and WR of a number that is
not one of the eight RW registers; each answers InvalidCommand with the number, also while FATAL =
1, and changes nothing else. -/
def Obligations.IllFormedRegisterIsInvalidCommand : Prop :=
  (∀ n : W16, Instr.wellFormed (.rd n) = true ↔
    n.toNat < 0x009 ∨ (0x010 ≤ n.toNat ∧ n.toNat < 0x016) ∨ (0x020 ≤ n.toNat ∧ n.toNat < 0x029) ∨
    (0x030 ≤ n.toNat ∧ n.toNat < 0x044) ∨ (0x050 ≤ n.toNat ∧ n.toNat < 0x058) ∨
    (0x060 ≤ n.toNat ∧ n.toNat < 0x06C) ∨ (0x080 ≤ n.toNat ∧ n.toNat < 0x084) ∨
    (0x088 ≤ n.toNat ∧ n.toNat < 0x092) ∨ (0x0A0 ≤ n.toNat ∧ n.toNat < 0x0B2) ∨
    (0x100 ≤ n.toNat ∧ n.toNat < 0x200)) ∧
  (∀ (n : W16) (v : W32), Instr.wellFormed (.wr n v) = true ↔
    (0x020 ≤ n.toNat ∧ n.toNat < 0x024) ∨ (0x080 ≤ n.toNat ∧ n.toNat < 0x084)) ∧
  (∀ i : Instr, i.wellFormed = false → (∃ n, i = .rd n) ∨ ∃ n v, i = .wr n v) ∧
  ∀ (s : State) (n : W16) (v : W32),
    (Instr.wellFormed (.rd n) = false →
      exec (.rd n) s =
        .next (s.afterError (encode (.rd n)) .invalidCommand (n.setWidth 32))) ∧
    (Instr.wellFormed (.wr n v) = false →
      exec (.wr n v) s =
        .next (s.afterError (encode (.wr n v)) .invalidCommand (n.setWidth 32)))

/-- WR of each of the eight tunables. Clearing BTN_EN while it is set tears the button controller
down: every hold in progress is cancelled, every channel idle with the line up. -/
def Obligations.WriteSetsTheTunable : Prop :=
  ∀ (s : State) (v : W32), s.err.fatal = false →
    exec (.wr 0x021 v) s =
      .next (({ s with btnTune := { s.btnTune with debounce := v } } : State).afterOk v) ∧
    exec (.wr 0x022 v) s =
      .next (({ s with btnTune := { s.btnTune with dpwin := v } } : State).afterOk v) ∧
    exec (.wr 0x023 v) s =
      .next (({ s with btnTune := { s.btnTune with holdmin := v } } : State).afterOk v) ∧
    (s.us.st = .idle →
      exec (.wr 0x080 v) s =
        .next (({ s with usTune := { s.usTune with offset := v } } : State).afterOk v) ∧
      exec (.wr 0x081 v) s =
        .next (({ s with usTune := { s.usTune with sampleTo := v } } : State).afterOk v) ∧
      exec (.wr 0x082 v) s =
        .next (({ s with usTune := { s.usTune with overall := v } } : State).afterOk v) ∧
      exec (.wr 0x083 v) s =
        .next (({ s with usTune := { s.usTune with gap := v } } : State).afterOk v)) ∧
    exec (.wr 0x020 1) s = .next (({ s with btnEn := true } : State).afterOk 1) ∧
    (s.btnEn = false → exec (.wr 0x020 0) s = .next (s.afterOk 0)) ∧
    (s.btnEn = true →
      exec (.wr 0x020 0) s =
        .next (({ s with
          btnEn := false,
          channels := s.channels.map fun c =>
            { c with gst := .idle, level := true, dbcnt := 0, holdcnt := 0, dparmed := false,
                     dptimer := 0,
                     holdsub := if c.holdsub = .started then .canceled else c.holdsub,
                     holding := if c.holdsub = .started then false else c.holding } } :
          State).afterOk 0)) ∧
    (1 < v.toNat →
      exec (.wr 0x020 v) s = .next (s.afterError (encode (.wr 0x020 v)) .invalidInput v))

/-- After the reset pin and after SRST every register and memory cell holds its reset value; SRST
keeps the bus trace, the pin empties it; SRST answers OK and does not count. State.reset has the
default of every parameter. That the parameters and the environment's record outlive both is the
model's reading (log 14). -/
def Obligations.ResetsRestoreTheResetValues : Prop :=
  (∀ s : State, ∃ t, exec .srst s = .next t ∧ t.AtResetValues ∧ t.trace = s.trace ∧
    t.cfg = s.cfg ∧ t.env = { s.env with responses := s.env.responses ++ [0] }) ∧
  (∀ s s' : State, s.Offers .rst s' → ∃ t, step s = .next t ∧ t.AtResetValues ∧ t.trace = [] ∧
    t.cfg = s.cfg ∧ t.env = s'.env) ∧
  State.reset.AtResetValues ∧ State.reset.trace = [] ∧
  State.reset.cfg =
    { shape := { cmdBits := 64, rspBits := 64, frac := 14, nMotor := 2, nButton := 4, nLight := 6,
                 nChannel := 18, nKind := 3 },
      tickHz := 1000000, nSub := 4, stageSize := 32, i2cAddr := 0x54, cmdEnable := 0x00,
      cmdSetval := 0x01, cmdLeds := 0x13, cmdUpdate := 0x16, cmdReset := 0x17, enData := 0x01,
      disData := 0x00, updData := 0xFF, rstData := 0xFF, brakeNegDuty := 0,
      dpwinDefault := 1000000, holdminDefault := 1000000, debounceDefault := 10000,
      trigTicks := 10, usOffsetDefault := 190, usSampleToDefault := 100000,
      usOverallDefault := 0, usGapDefault := 0, usSamplesDefault := 3, sosNum := 343,
      sosDen := 10, leafCanFail := false }

/-! ### Motors -/

/-- MSET drives the one motor, MBOTH both: the clamped speed, its two duties and the enable line;
every register of the other motor and everything else is as before. -/
def Obligations.SetSpeedDrivesTheMotors : Prop :=
  ∀ (s : State) (v : W16), s.err.fatal = false → s.LeavesOk 6 →
    (∀ (m : BitVec 4) (h : m.toNat < 2),
      exec (.mset m v) s =
        .next ((({ s with motorEn := true,
                          motors := s.motors.set ⟨m.toNat, h⟩ (motorAt s.cfg v.toInt) } :
          State).leavesMade 3).afterOk 0)) ∧
    exec (.mboth v) s =
      .next ((({ s with motorEn := true,
                        motors := ⟨motorAt s.cfg v.toInt, motorAt s.cfg v.toInt⟩ } :
        State).leavesMade 6).afterOk 0)

/-- The nine maneuvers that set speeds: their opcodes, and the speeds of LEFT and RIGHT. The
negation is over the integers. -/
def Obligations.ManeuversSetTheirSpeeds : Prop :=
  ∀ (s : State) (v : W16), s.err.fatal = false → s.LeavesOk 6 →
    let drives : Instr → BitVec 8 → W16 → Int → Int → Prop := fun i opc h0 l r =>
      encode i = opc ++ (0 : BitVec 40) ++ h0 ∧
      exec i s =
        .next ((({ s with motorEn := true, motors := ⟨motorAt s.cfg l, motorAt s.cfg r⟩ } :
          State).leavesMade 6).afterOk 0)
    drives (.mfwd v) 0x13 v v.toInt v.toInt ∧ drives (.mbwd v) 0x14 v (-v.toInt) (-v.toInt) ∧
    drives (.mtl v) 0x15 v (-v.toInt) v.toInt ∧ drives (.mtr v) 0x16 v v.toInt (-v.toInt) ∧
    drives (.mcfl v) 0x17 v 0 v.toInt ∧ drives (.mcfr v) 0x18 v v.toInt 0 ∧
    drives (.mcbl v) 0x19 v 0 (-v.toInt) ∧ drives (.mcbr v) 0x1A v (-v.toInt) 0 ∧
    drives .mstop 0x1B 0 0 0

/-- MDIS and MCOAST: the enable line low, the four duties 0, the speeds kept. -/
def Obligations.DisableCoastsTheMotors : Prop :=
  ∀ s : State, s.err.fatal = false → s.LeavesOk 5 →
    let coasting : State :=
      ({ s with motorEn := false,
                motors := ⟨⟨s.motors.left.speed, 0, 0⟩, ⟨s.motors.right.speed, 0, 0⟩⟩ } :
        State).leavesMade 5
    exec .mdis s = .next (coasting.afterOk 0) ∧ exec .mcoast s = .next (coasting.afterOk 0)

/-- The mapping of a clamped speed to its pair of duties, its range, and its values at the
boundaries. -/
def Obligations.DutyFollowsTheThreeLines : Prop :=
  (∀ (cfg : Config) (c : Int), -16384 ≤ c → c ≤ 16384 →
    let p : Int := ((dutyPair cfg c).1.toNat : Int)
    let n : Int := ((dutyPair cfg c).2.toNat : Int)
    (c > 0 → p = 16384 ∧ n = 16384 - c) ∧ (c < 0 → p = 16384 + c ∧ n = 16384) ∧
    (c = 0 → p = 16384 ∧ n = cfg.brakeNegDuty.toNat) ∧
    (cfg.brakeNegDuty.toNat ≤ 16384 → 0 ≤ p ∧ p ≤ 16384 ∧ 0 ≤ n ∧ n ≤ 16384)) ∧
  Config.standard.brakeNegDuty = 0 ∧
  dutyPair Config.standard (-16384) = (0, 0x4000) ∧ dutyPair Config.standard 0 = (0x4000, 0) ∧
  dutyPair Config.standard 16384 = (0x4000, 0) ∧ dutyPair Config.standard 1 = (0x4000, 0x3FFF) ∧
  dutyPair Config.standard (-1) = (0x3FFF, 0x4000)

/-- A motor that a speed command changed has its speed in -1..1, a leg at full duty, the positive
leg below full duty only at a negative speed, the negative leg only at a speed of 0 or more; and the
most negative operand, negated, clamps to full speed. -/
def Obligations.SpeedCommandsKeepTheMotorLaws : Prop :=
  (∀ (i : Instr) (s t : State), i.setsSpeed → s.LeavesOk 6 → exec i s = .next t → ∀ m : Fin 2,
    let x := t.motors.get m
    x = s.motors.get m ∨
    (t.motorEn = true ∧ -16384 ≤ x.speed.toInt ∧ x.speed.toInt ≤ 16384 ∧
      (x.dutyP.toNat = 16384 ∨ x.dutyN.toNat = 16384) ∧
      (x.dutyP.toNat < 16384 → x.speed.toInt < 0) ∧
      (x.dutyN.toNat < 16384 → 0 ≤ x.speed.toInt))) ∧
  ∀ s : State, s.err.fatal = false → s.LeavesOk 6 →
    ∃ t, exec (.mbwd 0x8000) s = .next t ∧ ∀ m, t.motors.get m = ⟨0x4000, 0x4000, 0⟩

/-- With LEAF_CAN_FAIL, leaf operation k of a command on the motors, the LEDs or the trigger line
that fails ends it with TransportFailure(k): what was written before it and by it stands, nothing
after it is done. For BBLINK (no timer started), URD 0 (nothing finished) and UCANCEL (the engine
goes on) this is the model's reading (log 13). -/
def Obligations.FailedMotorLeafStopsTheCommand : Prop :=
  ∀ (s : State) (v : W16) (on : Bool) (interval : W32), s.err.fatal = false →
    s.cfg.leafCanFail = true →
    -- `leaves`: what each leaf operation writes, with the writes of the command between the one
    -- before it and itself
    let cut : Instr → State → List (State → State) → Prop := fun i start leaves =>
      ∀ k < leaves.length, s.FailsAt k →
        exec i s =
          .next (({ (leaves.take (k + 1)).foldl (fun t write => write t) start with
                    env := { s.env with asked := s.env.asked + (k + 1) } } :
            State).afterError (encode i) .transportFailure (BitVec.ofNat 32 k))
    let motor : Fin 2 → (Motor → Motor) → State → State := fun m f t =>
      { t with motors := t.motors.set m (f (t.motors.get m)) }
    let drive : Fin 2 → Int → List (State → State) := fun m c =>
      let x := motorAt s.cfg c
      [fun t => { motor m (fun y => { y with speed := x.speed }) t with motorEn := true },
       motor m fun y => { y with dutyP := x.dutyP }, motor m fun y => { y with dutyN := x.dutyN }]
    let coast : List (State → State) :=
      [fun t => { t with motorEn := false }, motor 0 fun y => { y with dutyP := 0 },
       motor 0 fun y => { y with dutyN := 0 }, motor 1 fun y => { y with dutyP := 0 },
       motor 1 fun y => { y with dutyN := 0 }]
    let led : W16 → Fin 4 → State → State := fun d b t => { t with ledDuty := t.ledDuty.set b d }
    let d : W16 := BitVec.ofInt 16 (max 0 (min v.toInt 16384))
    let full : W16 := if on then 0x4000 else 0
    let trigLow : State → State := fun t => { t with trig := false }
    (∀ (m : BitVec 4) (h : m.toNat < 2), cut (.mset m v) s (drive ⟨m.toNat, h⟩ v.toInt)) ∧
    cut (.mboth v) s (drive 0 v.toInt ++ drive 1 v.toInt) ∧
    cut (.mfwd v) s (drive 0 v.toInt ++ drive 1 v.toInt) ∧
    cut (.mbwd v) s (drive 0 (-v.toInt) ++ drive 1 (-v.toInt)) ∧
    cut (.mtl v) s (drive 0 (-v.toInt) ++ drive 1 v.toInt) ∧
    cut (.mtr v) s (drive 0 v.toInt ++ drive 1 (-v.toInt)) ∧
    cut (.mcfl v) s (drive 0 0 ++ drive 1 v.toInt) ∧
    cut (.mcfr v) s (drive 0 v.toInt ++ drive 1 0) ∧
    cut (.mcbl v) s (drive 0 0 ++ drive 1 (-v.toInt)) ∧
    cut (.mcbr v) s (drive 0 (-v.toInt) ++ drive 1 0) ∧
    cut .mstop s (drive 0 0 ++ drive 1 0) ∧ cut .mdis s coast ∧ cut .mcoast s coast ∧
    (∀ (b : BitVec 4) (h : b.toNat < 4),
      cut (.bled b v) s [led d ⟨b.toNat, h⟩] ∧ cut (.bledb b on) s [led full ⟨b.toNat, h⟩]) ∧
    cut (.bledall v) s ([0, 1, 2, 3].map (led d)) ∧
    cut (.bledallb on) s ([0, 1, 2, 3].map (led full)) ∧
    cut (.bblink interval) s ([0, 1, 2, 3].map (led 0x4000)) ∧
    (s.us.st = .idle →
      cut (.urd 0) { s with us := ⟨.idle, 0, 0, s.us.ctr, 0, 0, 0, false, 0, 0, .none, 0, false⟩ }
        [trigLow]) ∧
    (s.us.st ≠ .idle → cut .ucancel s [trigLow])

/-- SPEED changes only in a step that runs a command that sets speeds, SRST or the reset pin. -/
def Obligations.OnlySpeedCommandsChangeTheSpeeds : Prop :=
  ∀ (s t : State) (m : Fin 2), step s = .next t →
    (t.motors.get m).speed ≠ (s.motors.get m).speed →
    ∃ s', s.Offers .rst s' ∨
      ∃ cw i, s.Offers (.command cw) s' ∧ decode cw = .ok i ∧ (i.setsSpeed ∨ i = .srst)

/-! ### Buttons, LEDs and the blink timer -/

/-- BLED, BLEDB, BLEDALL and BLEDALLB drive the LEDs with the clamped intensity or with full or no
duty; BBLINK drives all four at full duty and starts the timer. -/
def Obligations.LedCommandsDriveTheLeds : Prop :=
  ∀ (s : State) (v : W16) (on : Bool) (interval : W32), s.err.fatal = false → s.LeavesOk 4 →
    let d : W16 := BitVec.ofInt 16 (max 0 (min v.toInt 16384))
    let full : W16 := if on then 0x4000 else 0
    (∀ (b : BitVec 4) (h : b.toNat < 4),
      exec (.bled b v) s =
        .next ((({ s with ledDuty := s.ledDuty.set ⟨b.toNat, h⟩ d } : State).leavesMade
          1).afterOk 0) ∧
      exec (.bledb b on) s =
        .next ((({ s with ledDuty := s.ledDuty.set ⟨b.toNat, h⟩ full } : State).leavesMade
          1).afterOk 0)) ∧
    exec (.bledall v) s =
      .next ((({ s with ledDuty := ⟨d, d, d, d⟩ } : State).leavesMade 4).afterOk 0) ∧
    exec (.bledallb on) s =
      .next ((({ s with ledDuty := ⟨full, full, full, full⟩ } : State).leavesMade 4).afterOk 0) ∧
    exec (.bblink interval) s =
      .next ((({ s with ledDuty := ⟨0x4000, 0x4000, 0x4000, 0x4000⟩, blinkTimer := interval,
                        blinkActive := true } : State).leavesMade 4).afterOk 0)

/-- BUNSUB and BACK, and BSUB beside them: the slot's mask and pending events, the response, and a
slot out of range, that is N_SUB or more, with the default 4 or more. No other slot and nothing else
changes. That the slots are N_SUB in number, the rules' `0..3` and `s > 3`, is the model's reading
(log 19). -/
def Obligations.SubscriptionCommandsChangeTheSlot : Prop :=
  Config.standard.nSub = 4 ∧
  ∀ (s : State) (slot : BitVec 4) (m : BitVec 12), s.err.fatal = false →
    (encode (.bsub slot m) = (0x25 : BitVec 8) ++ slot ++ (0 : BitVec 40) ++ m ∧
     encode (.bunsub slot m) = (0x26 : BitVec 8) ++ slot ++ (0 : BitVec 40) ++ m ∧
     encode (.back slot m) = (0x27 : BitVec 8) ++ slot ++ (0 : BitVec 40) ++ m) ∧
    (slot.toNat < s.cfg.nSub → s.subs.length = s.cfg.nSub →
      let u := s.slot slot.toNat
      let withNew : Subscriber → State := fun x => { s with subs := s.subs.set slot.toNat x }
      exec (.bsub slot m) s =
        .next ((withNew ⟨u.mask ||| m, u.pend⟩).afterOk ((u.mask ||| m).setWidth 32)) ∧
      exec (.bunsub slot m) s =
        .next ((withNew ⟨u.mask &&& ~~~m, u.pend &&& ~~~m⟩).afterOk
          ((u.mask &&& ~~~m).setWidth 32)) ∧
      exec (.back slot m) s =
        .next ((withNew ⟨u.mask, u.pend &&& ~~~m⟩).afterOk ((u.pend &&& m).setWidth 32))) ∧
    (s.cfg.nSub ≤ slot.toNat →
      exec (.bsub slot m) s =
        .next (s.afterError (encode (.bsub slot m)) .invalidInput (slot.setWidth 32)) ∧
      exec (.bunsub slot m) s =
        .next (s.afterError (encode (.bunsub slot m)) .invalidInput (slot.setWidth 32)) ∧
      exec (.back slot m) s =
        .next (s.afterError (encode (.back slot m)) .invalidInput (slot.setWidth 32)))

/-- BHOLD answers the live holding flag and reads only; a button out of range is InvalidInput. -/
def Obligations.HoldQueryReturnsTheFlag : Prop :=
  encode (.bhold 2) = 0x2420000000000000 ∧
  ∀ (s : State) (b : BitVec 4), s.err.fatal = false →
    encode (.bhold b) = (0x24 : BitVec 8) ++ b ++ (0 : BitVec 52) ∧
    (∀ h : b.toNat < 4,
      exec (.bhold b) s =
        .next (s.afterOk (if (s.channels.get ⟨b.toNat, h⟩).holding then 1 else 0))) ∧
    (4 ≤ b.toNat →
      exec (.bhold b) s =
        .next (s.afterError (encode (.bhold b)) .invalidInput (b.setWidth 32)))

/-- Every operand out of its range answers InvalidInput with the offending value and changes nothing
else: selectors, staging indices, sequence lengths, the value of BTN_EN, and the first RGB component
outside 0..255. That the rules' bounds 3 of a slot and 31 of a staging index are N_SUB - 1 and
STAGE_SIZE - 1 is the model's reading (log 19). -/
def Obligations.OutOfRangeOperandsAreRejected : Prop :=
  Config.standard.nSub = 4 ∧ Config.standard.stageSize = 32 ∧
  ∀ s : State, s.err.fatal = false →
    let rejects : Instr → W32 → Prop := fun i info =>
      exec i s = .next (s.afterError (encode i) .invalidInput info)
    (∀ (m : BitVec 4) (v : W16), 2 ≤ m.toNat → rejects (.mset m v) (m.setWidth 32)) ∧
    (∀ (b : BitVec 4) (v : W16) (on : Bool), 4 ≤ b.toNat →
      rejects (.bled b v) (b.setWidth 32) ∧ rejects (.bledb b on) (b.setWidth 32) ∧
      rejects (.bhold b) (b.setWidth 32)) ∧
    (∀ (slot : BitVec 4) (mask : BitVec 12), s.cfg.nSub ≤ slot.toNat →
      rejects (.bsub slot mask) (slot.setWidth 32) ∧
      rejects (.bunsub slot mask) (slot.setWidth 32) ∧
      rejects (.back slot mask) (slot.setWidth 32)) ∧
    (∀ v : W32, 1 < v.toNat → rejects (.wr 0x020 v) v) ∧
    (∀ (idx : W16) (v : Byte), s.cfg.stageSize ≤ idx.toNat →
      rejects (.stw idx v) (idx.setWidth 32) ∧ rejects (.str idx) (idx.setWidth 32)) ∧
    (s.i2cOpen = true →
      (∀ len : W16, len.toNat ≠ 18 →
        rejects (.snout len) (len.setWidth 32) ∧ rejects (.snoutr len) (len.setWidth 32)) ∧
      (∀ (l : BitVec 4) (sh : Bool) (r g b : W16), 6 ≤ l.toNat →
        rejects (.uset l sh r g b) (BitVec.ofNat 32 (0x10 + l.toNat)) ∧
        rejects (.uclr l sh) (BitVec.ofNat 32 (0x10 + l.toNat)) ∧
        rejects (.uhsv l sh r g b) (BitVec.ofNat 32 (0x10 + l.toNat))) ∧
      (∀ (l : BitVec 4) (sh : Bool) (r g b : W16), l.toNat < 6 →
        let bad : W16 → Prop := fun x => x.toInt < 0 ∨ 255 < x.toInt
        (bad r → rejects (.uset l sh r g b) 0 ∧ rejects (.ufill sh r g b) 0) ∧
        (¬ bad r → bad g → rejects (.uset l sh r g b) 1 ∧ rejects (.ufill sh r g b) 1) ∧
        (¬ bad r → ¬ bad g → bad b →
          rejects (.uset l sh r g b) 2 ∧ rejects (.ufill sh r g b) 2)))

/-- `emit` counts the event, sets its pending bit in every slot subscribed to it and in no other,
leaves a bit that is set, and raises the slot's line; nothing else changes. That the slots are N_SUB
in number, the rules' `0..3` and `s > 3`, is the model's reading (log 19). -/
def Obligations.EmitNotifiesTheSubscribers : Prop :=
  [EventKind.press, .double, .hold].map EventKind.index = [0, 1, 2] ∧
  ∀ (s : State) (b : Fin 4) (k : EventKind),
    let t := s.emit b k
    let e := 3 * b.val + k.index
    (∀ (b' : Fin 4) (k' : Fin 3), (t.evcnt.get b').count k' =
      if b' = b ∧ k'.val = k.index then (s.evcnt.get b').count k' + 1
      else (s.evcnt.get b').count k') ∧
    t.subs.length = s.subs.length ∧
    (∀ i : Nat, (t.slot i).mask = (s.slot i).mask ∧
      (∀ j, (t.slot i).pend.getLsbD j =
        ((s.slot i).pend.getLsbD j || (decide (j = e) && (s.slot i).mask.getLsbD e))) ∧
      ((s.slot i).mask.getLsbD e = true → t.irqSub i = true)) ∧
    t = { s with evcnt := t.evcnt, subs := t.subs }

/-- The debounced level follows the raw level at the BTN_DEBOUNCE-th consecutive tick that disagrees
with it (at the first for 0), not before; a tick that agrees restarts the count. -/
def Obligations.DebounceCountsConsecutiveTicks : Prop :=
  ∀ (s : State) (b : Fin 4), s.btnEn = true →
    let c := s.channels.get b
    (∀ samples : List Sample, (∀ x ∈ samples, x.btn.get b ≠ c.level) → c.dbcnt = 0 →
      let c' := ((s.afterTicks samples).channels.get b)
      (samples.length < max s.btnTune.debounce.toNat 1 →
        c'.level = c.level ∧ c'.dbcnt.toNat = samples.length) ∧
      (samples.length = max s.btnTune.debounce.toNat 1 →
        c'.level = !c.level ∧ c'.dbcnt = 0)) ∧
    (∀ x : Sample, x.btn.get b = c.level →
      ((s.tickStep x).channels.get b).level = c.level ∧
      ((s.tickStep x).channels.get b).dbcnt = 0)

/-- The two debounced edges of a channel. A press raises PRESS, and with the window still open after
this tick's ageing DOUBLE too, which closes it; else it opens the window. A release ends a hold and
raises nothing. -/
def Obligations.EdgesOfAButtonChannel : Prop :=
  ∀ (s : State) (b : Fin 4), s.btnEn = true →
    let c := s.channels.get b
    let still : Bool := c.dparmed && decide (c.dptimer ≠ 0)
    let left : W32 := if still then c.dptimer - 1 else c.dptimer
    let withNew : Channel → State := fun x => { s with channels := s.channels.set b x }
    s.btnTune.debounce.toNat ≤ c.dbcnt.toNat + 1 →
    (c.level = true → still = true →
      s.buttonTick b false =
        ((withNew { c with level := false, dbcnt := 0, lastpress := s.now, holdcnt := 0,
                           holdsub := .none, gst := .double, dparmed := false,
                           dptimer := left }).emit b .press).emit b .double) ∧
    (c.level = true → still = false →
      s.buttonTick b false =
        (withNew { c with level := false, dbcnt := 0, lastpress := s.now, holdcnt := 0,
                          holdsub := .none, gst := .pressed, dparmed := true,
                          dptimer := s.btnTune.dpwin }).emit b .press) ∧
    (c.level = false →
      s.buttonTick b true =
        withNew { c with level := true, dbcnt := 0, gst := .idle, holdcnt := 0, dparmed := still,
                         dptimer := left,
                         holdsub := if c.gst = .hold then .completed else c.holdsub,
                         holding := if c.gst = .hold then false else c.holding })

/-- An open window is open after k further ticks without an edge exactly when k is at most its
timer; so, without debouncing, a press k + 1 ticks on is a double-press exactly when k + 1 is. -/
def Obligations.DoublePressWindowIsInclusive : Prop :=
  ∀ (s : State) (b : Fin 4) (samples : List Sample), s.btnEn = true →
    let c := s.channels.get b
    c.dparmed = true → (∀ x ∈ samples, x.btn.get b = c.level) →
    (((s.afterTicks samples).channels.get b).dparmed = true ↔
      samples.length ≤ c.dptimer.toNat) ∧
    ∀ x : Sample, c.level = true → s.btnTune.debounce.toNat ≤ 1 → x.btn.get b = false →
      let t := s.afterTicks (samples ++ [x])
      (t.evcnt.get b).press = (s.evcnt.get b).press + 1 ∧
      (samples.length + 1 ≤ c.dptimer.toNat →
        (t.channels.get b).gst = .double ∧
        (t.evcnt.get b).double = (s.evcnt.get b).double + 1) ∧
      (c.dptimer.toNat < samples.length + 1 →
        (t.channels.get b).gst = .pressed ∧ (t.evcnt.get b).double = (s.evcnt.get b).double)

/-- A press kept down raises HOLD once, at the BTN_HOLDMIN-th tick after it (at the first for 0),
and holds from then on. -/
def Obligations.HoldStartsOnceAtTheBound : Prop :=
  ∀ (s : State) (b : Fin 4) (samples : List Sample), s.btnEn = true →
    let c := s.channels.get b
    let n := max s.btnTune.holdmin.toNat 1
    let t := s.afterTicks samples
    c.level = false → c.gst = .pressed ∨ c.gst = .double → c.holdcnt = 0 →
    (∀ x ∈ samples, x.btn.get b = false) →
    (samples.length < n →
      (t.channels.get b).gst = c.gst ∧ (t.channels.get b).holdcnt.toNat = samples.length ∧
      (t.channels.get b).holding = c.holding ∧ t.evcnt.get b = s.evcnt.get b) ∧
    (n ≤ samples.length →
      (t.channels.get b).gst = .hold ∧ (t.channels.get b).holdsub = .started ∧
      (t.channels.get b).holding = true ∧
      t.evcnt.get b = { s.evcnt.get b with hold := (s.evcnt.get b).hold + 1 })

/-- What a tick makes of channel b, of its counts and of its pending bits depends on nothing of
another channel. That the slots are N_SUB in number, the rules' `0..3` and `s > 3`, is the model's
reading (log 19). -/
def Obligations.ButtonChannelsAreIndependent : Prop :=
  ∀ (s s' : State) (x x' : Sample) (b : Fin 4), s.btnEn = s'.btnEn → s.btnTune = s'.btnTune →
    s.now = s'.now → s.channels.get b = s'.channels.get b → x.btn.get b = x'.btn.get b →
    s.evcnt.get b = s'.evcnt.get b →
    (s.tickStep x).channels.get b = (s'.tickStep x').channels.get b ∧
    (s.tickStep x).evcnt.get b = (s'.tickStep x').evcnt.get b ∧
    ∀ (i k : Nat), k < 3 →
      (s.slot i).mask.getLsbD (3 * b.val + k) = (s'.slot i).mask.getLsbD (3 * b.val + k) →
      (s.slot i).pend.getLsbD (3 * b.val + k) = (s'.slot i).pend.getLsbD (3 * b.val + k) →
      ((s.tickStep x).slot i).pend.getLsbD (3 * b.val + k) =
        ((s'.tickStep x').slot i).pend.getLsbD (3 * b.val + k)

/-- What a tick step leaves as it is: everything no agent owns, and each agent's part while the
agent is not running. That the slots are N_SUB in number, the rules' `0..3` and `s > 3`, is the
model's reading (log 19). -/
def Obligations.TickChangesOnlyTheAgentsState : Prop :=
  ∀ (s : State) (x : Sample),
    let t := s.tickStep x
    t.now = s.now + 1 ∧ t.cfg = s.cfg ∧ t.cmdseq = s.cmdseq ∧ t.motors = s.motors ∧
    t.motorEn = s.motorEn ∧ t.btnEn = s.btnEn ∧ t.btnTune = s.btnTune ∧ t.i2cOpen = s.i2cOpen ∧
    (∀ a, t.frame.read a = s.frame.read a) ∧ (∀ a, t.stage.read a = s.stage.read a) ∧
    t.trace = s.trace ∧ t.usTune = s.usTune ∧
    t.env = { s.env with asked := t.env.asked } ∧
    t.subs.length = s.subs.length ∧ (∀ i, (t.slot i).mask = (s.slot i).mask) ∧
    (s.btnEn = false → t.channels = s.channels ∧ t.evcnt = s.evcnt ∧ t.subs = s.subs) ∧
    (s.blinkActive = false →
      t.ledDuty = s.ledDuty ∧ t.blinkActive = false ∧ t.blinkTimer = s.blinkTimer) ∧
    (s.us.st = .idle → t.us = s.us ∧ t.trig = s.trig) ∧
    (s.cfg.leafCanFail = false → t.err = s.err ∧ t.env.asked = s.env.asked)

/-- A blink with T ticks left keeps the LEDs for T ticks and turns all four off at tick T + 1. -/
def Obligations.BlinkEndsAfterItsInterval : Prop :=
  ∀ (s : State) (samples : List Sample), s.cfg.leafCanFail = false → s.blinkActive = true →
    let t := s.afterTicks samples
    (samples.length ≤ s.blinkTimer.toNat →
      t.ledDuty = s.ledDuty ∧ t.blinkActive = true ∧
      t.blinkTimer.toNat = s.blinkTimer.toNat - samples.length) ∧
    (samples.length = s.blinkTimer.toNat + 1 →
      t.ledDuty = ⟨0, 0, 0, 0⟩ ∧ t.blinkActive = false ∧ t.blinkTimer = 0)

/-- With LEAF_CAN_FAIL, a leaf operation that fails in a tick step sets FATAL and the error record
with an empty command word. The blink timer makes all four writes and ends; the engine stops. -/
def Obligations.TickLeafFailuresAreRecorded : Prop :=
  ∀ s : State, s.cfg.leafCanFail = true →
    (s.blinkActive = true → s.blinkTimer = 0 →
      let t := s.blinkTick
      t.ledDuty = ⟨0, 0, 0, 0⟩ ∧ t.blinkActive = false ∧ t.env.asked = s.env.asked + 4 ∧
      (s.AnswersOk 4 → t.err = s.err) ∧
      ((∃ k < 4, s.answerAt (s.env.asked + k) = .fail) →
        t.err = ⟨.transportFailure, s.cmdseq, 0, 1, true⟩)) ∧
    (s.us.st ≠ .idle → ∀ e : Bool,
      let t := s.engineTick e
      (t.env.asked = s.env.asked ∧ t.err = s.err) ∨
      (t.env.asked = s.env.asked + 1 ∧
        (s.answerAt s.env.asked = .ok → t.err = s.err) ∧
        (s.answerAt s.env.asked = .fail →
          t.us.st = .idle ∧ t.trig = false ∧ t.us.res = .transport ∧ t.us.dist = 0 ∧
          t.us.done = true ∧ t.err = ⟨.transportFailure, s.cmdseq, 0, 2, true⟩)))

/-! ### The LED driver -/

/-- SNEN, SNDIS, SNRST and SNUPD each make one bus write and change nothing else; if it fails, the
command ends with TransportFailure(0). That the rules' command bytes and 0x54 are the CMD_
parameters and I2C_ADDR of R5 is the model's reading (log 19). -/
def Obligations.SingleShotCommandsMakeOneWrite : Prop :=
  Config.standard.i2cAddr = 0x54 ∧ Config.standard.cmdEnable = 0x00 ∧
  Config.standard.cmdReset = 0x17 ∧ Config.standard.cmdUpdate = 0x16 ∧
  Config.standard.enData = 0x01 ∧ Config.standard.disData = 0x00 ∧
  Config.standard.rstData = 0xFF ∧ Config.standard.updData = 0xFF ∧
  encode .snen = 0x3000000000000000 ∧ encode .sndis = 0x3100000000000000 ∧
  encode .snrst = 0x3200000000000000 ∧ encode .snupd = 0x3400000000000000 ∧
  ∀ s : State, s.err.fatal = false → s.i2cOpen = true →
    let sends : Instr → List Byte → Prop := fun i bytes =>
      (s.AnswersOk 1 → exec i s = .next ((s.busMade [bytes]).afterOk 0)) ∧
      (s.FailsAt 0 →
        exec i s = .next ((s.busFailed [bytes] 0).afterError (encode i) .transportFailure 0))
    sends .snen [s.cfg.cmdEnable, s.cfg.enData] ∧ sends .sndis [s.cfg.cmdEnable, s.cfg.disData] ∧
    sends .snrst [s.cfg.cmdReset, s.cfg.rstData] ∧ sends .snupd [s.cfg.cmdUpdate, s.cfg.updData]

/-- SNMASK sends the mask in three groups of six bits, lowest first, then the update; the first
write that fails ends it. A word with a bit of W[31:18] set is no SNMASK. That the rules' command
bytes and 0x54 are the CMD_ parameters and I2C_ADDR of R5 is the model's reading (log 19). -/
def Obligations.ChannelMaskIsSentInThreeGroups : Prop :=
  Config.standard.cmdLeds = 0x13 ∧ Config.standard.cmdUpdate = 0x16 ∧
  Config.standard.updData = 0xFF ∧ Config.standard.i2cAddr = 0x54 ∧
  (∀ cw : W64, cw.extractLsb' 56 8 = (0x33 : BitVec 8) → cw.extractLsb' 18 14 ≠ (0 : BitVec 14) →
    decode cw = .error (.reservedBits 0x33)) ∧
  ∀ (s : State) (m : BitVec 18) (m0 m1 m2 : Byte), s.err.fatal = false → s.i2cOpen = true →
    m0.toNat = m.toNat % 64 → m1.toNat = m.toNat / 64 % 64 → m2.toNat = m.toNat / 4096 →
    let writes : List (List Byte) :=
      [[s.cfg.cmdLeds, m0, m1, m2], [s.cfg.cmdUpdate, s.cfg.updData]]
    encode (.snmask m) = (0x33 : BitVec 8) ++ (0 : BitVec 38) ++ m ∧
    (s.AnswersOk 2 → exec (.snmask m) s = .next ((s.busMade writes).afterOk 0)) ∧
    ∀ k < 2, s.FailsAt k →
      exec (.snmask m) s =
        .next ((s.busFailed writes k).afterError (encode (.snmask m)) .transportFailure
          (BitVec.ofNat 32 k))

/-- SNOUT 18 sends the 18 staged bytes through GAMMA, SNOUTR 18 as they are, USHOW the frame through
GAMMA followed by enable-output; the first write that fails ends the command. FRAME and STAGE are
read only. That the rules' command bytes and 0x54 are the CMD_ parameters and I2C_ADDR of R5 is the
model's reading (log 19). -/
def Obligations.OutputCommandsSendEighteenBytes : Prop :=
  Config.standard.cmdSetval = 0x01 ∧ Config.standard.cmdUpdate = 0x16 ∧
  Config.standard.cmdEnable = 0x00 ∧
  ∀ s : State, s.err.fatal = false → s.i2cOpen = true →
    let sends : Instr → List (List Byte) → Prop := fun i writes =>
      (s.AnswersOk writes.length → exec i s = .next ((s.busMade writes).afterOk 0)) ∧
      ∀ k < writes.length, s.FailsAt k →
        exec i s =
          .next ((s.busFailed writes k).afterError (encode i) .transportFailure (BitVec.ofNat 32 k))
    let update : List Byte := [s.cfg.cmdUpdate, s.cfg.updData]
    sends (.snout 18)
      [s.cfg.cmdSetval :: (List.range 18).map (fun i => gamma (s.stage.read i)), update] ∧
    sends (.snoutr 18) [s.cfg.cmdSetval :: (List.range 18).map s.stage.read, update] ∧
    sends .ushow
      [s.cfg.cmdSetval :: (List.range 18).map (fun i => gamma (s.frame.read i)), update,
       [s.cfg.cmdEnable, s.cfg.enData]]

/-- STW writes the one cell of STAGE, STR answers it and writes nothing; neither needs the bus. That
the rule's bound 31 is STAGE_SIZE - 1 is the model's reading (log 19). -/
def Obligations.StageIsWrittenAndReadByCell : Prop :=
  Config.standard.stageSize = 32 ∧
  ∀ (s : State) (idx : W16) (v : Byte), s.err.fatal = false → idx.toNat < s.cfg.stageSize →
    (∃ m', (∀ a, Memory.read m' a = if a = idx.toNat then v else s.stage.read a) ∧
      exec (.stw idx v) s = .next (({ s with stage := m' } : State).afterOk 0)) ∧
    exec (.str idx) s = .next (s.afterOk ((s.stage.read idx.toNat).setWidth 32))

/-- Every cell of GAMMA is the formula `round(256^(i/255)) - 1`, raised to the power 255 so that it
is one of integers; and the properties listed with the table. -/
def Obligations.GammaTableIsTheFormula : Prop :=
  (∀ i : Fin 256, let g := (gamma (BitVec.ofNat 8 i)).toNat
    (2 * g + 1) ^ 255 ≤ 2 ^ 255 * 256 ^ i.val ∧ 2 ^ 255 * 256 ^ i.val < (2 * g + 3) ^ 255) ∧
  (∀ i : Fin 255, (gamma (BitVec.ofNat 8 i)).toNat ≤ (gamma (BitVec.ofNat 8 (i + 1))).toNat) ∧
  (∀ i : Fin 19, gamma (BitVec.ofNat 8 i) = 0) ∧ gamma 19 = 1 ∧ gamma 254 = 0xF9 ∧
  gamma 255 = 0xFF

/-! ### The underlights -/

/-- UINIT opens the bus, clears the frame and makes its four writes; if one fails the bus is
released and the command ends with its number; with the bus already open it is AlreadyOpen. That the
rules' command bytes and 0x54 are the CMD_ parameters and I2C_ADDR of R5 is the model's reading (log
19). -/
def Obligations.ConstructionOpensTheBusOrReleasesIt : Prop :=
  encode .uinit = 0x4000000000000000 ∧
  ∀ s : State, s.err.fatal = false →
    (s.i2cOpen = true → exec .uinit s = .next (s.afterError (encode .uinit) .alreadyOpen 0)) ∧
    (s.i2cOpen = false →
      ∃ f', (∀ a, Memory.read f' a = if a < 18 then 0 else s.frame.read a) ∧
        let writes : List (List Byte) :=
          [[s.cfg.cmdReset, s.cfg.rstData], [s.cfg.cmdLeds, 0x3F, 0x3F, 0x3F],
           [s.cfg.cmdUpdate, s.cfg.updData], [s.cfg.cmdEnable, s.cfg.disData]]
        (s.AnswersOk 4 →
          exec .uinit s =
            .next ((({ s with i2cOpen := true, frame := f' } : State).busMade writes).afterOk
              0)) ∧
        ∀ k < 4, s.FailsAt k →
          exec .uinit s =
            .next ((({ s with i2cOpen := false, frame := f' } : State).busFailed writes
              k).afterError (encode .uinit) .transportFailure (BitVec.ofNat 32 k)))

/-- UFINI clears the frame, attempts its four writes whatever their answers, releases the bus, and
reports the failed writes together as a bit mask; with the bus closed it is NotOpen. That the rules'
command bytes and 0x54 are the CMD_ parameters and I2C_ADDR of R5 is the model's reading (log 19).
-/
def Obligations.TeardownAttemptsEveryWrite : Prop :=
  encode .ufini = 0x4100000000000000 ∧
  ∀ (s : State) (a0 a1 a2 a3 : Answer), s.err.fatal = false →
    (s.i2cOpen = false → exec .ufini s = .next (s.afterError (encode .ufini) .notOpen 0)) ∧
    (s.i2cOpen = true → s.answerAt s.env.asked = a0 → s.answerAt (s.env.asked + 1) = a1 →
      s.answerAt (s.env.asked + 2) = a2 → s.answerAt (s.env.asked + 3) = a3 →
      ∃ f', (∀ a, Memory.read f' a = if a < 18 then 0 else s.frame.read a) ∧
        let t : State :=
          { s with frame := f', i2cOpen := false,
                   trace := s.trace ++
                     [busEntry s.cfg a0 (s.cfg.cmdSetval :: List.replicate 18 0),
                      busEntry s.cfg a1 [s.cfg.cmdUpdate, s.cfg.updData],
                      busEntry s.cfg a2 [s.cfg.cmdEnable, s.cfg.enData],
                      busEntry s.cfg a3 [s.cfg.cmdEnable, s.cfg.disData]],
                   env := { s.env with asked := s.env.asked + 4 } }
        let bit : Answer → Nat → Nat := fun a k => if a = .fail then 2 ^ k else 0
        let f := bit a0 0 + bit a1 1 + bit a2 2 + bit a3 3
        (f = 0 → exec .ufini s = .next (t.afterOk 0)) ∧
        (f ≠ 0 → exec .ufini s =
          .next (t.afterError (encode .ufini) .transportFailure (BitVec.ofNat 32 f))))

/-- USET, UFILL, UCLR and UCLRALL with components in 0..255: their three or eighteen cells of FRAME,
then, when `show` is 1, one show of the new frame. That the rules' command bytes and 0x54 are the
CMD_ parameters and I2C_ADDR of R5 is the model's reading (log 19). -/
def Obligations.SettersWriteTheirLightsAndShow : Prop :=
  ∀ (s : State) (sh : Bool) (r g b : Byte), s.err.fatal = false → s.i2cOpen = true →
    (sh = true → s.AnswersOk 3) →
    let shown : Memory → Host.Outcome State Fault Refusal := fun f' =>
      .next ((({ s with frame := f' } : State).busMade (showWritesIf sh s.cfg f'.read)).afterOk 0)
    (∀ l : BitVec 4, l.toNat < 6 →
      (∃ f', LightWritten s.frame f' l.toNat r g b ∧
        exec (.uset l sh (r.setWidth 16) (g.setWidth 16) (b.setWidth 16)) s = shown f') ∧
      ∃ f', LightWritten s.frame f' l.toNat 0 0 0 ∧ exec (.uclr l sh) s = shown f') ∧
    (∃ f', AllLightsWritten s.frame f' r g b ∧
      exec (.ufill sh (r.setWidth 16) (g.setWidth 16) (b.setWidth 16)) s = shown f') ∧
    ∃ f', AllLightsWritten s.frame f' 0 0 0 ∧ exec (.uclrall sh) s = shown f'

/-- UHSV and UFILLHSV write the triple of the HSV pre-step, show it when `show` is 1, and answer it.
Any hue, saturation and value is accepted. That the rules' command bytes and 0x54 are the CMD_
parameters and I2C_ADDR of R5 is the model's reading (log 19). -/
def Obligations.HsvSettersWriteTheTriple : Prop :=
  ∀ (s : State) (sh : Bool) (h sat v : W16), s.err.fatal = false → s.i2cOpen = true →
    (sh = true → s.AnswersOk 3) →
    let p := hsvToRgb h sat v
    let answer : W32 :=
      BitVec.ofNat 32 (p.1.toNat * 65536 + p.2.1.toNat * 256 + p.2.2.toNat)
    let shown : Memory → Host.Outcome State Fault Refusal := fun f' =>
      .next ((({ s with frame := f' } : State).busMade
        (showWritesIf sh s.cfg f'.read)).afterOk answer)
    (∀ l : BitVec 4, l.toNat < 6 →
      ∃ f', LightWritten s.frame f' l.toNat p.1 p.2.1 p.2.2 ∧
        exec (.uhsv l sh h sat v) s = shown f') ∧
    ∃ f', AllLightsWritten s.frame f' p.1 p.2.1 p.2.2 ∧ exec (.ufillhsv sh h sat v) s = shown f'

/-- The HSV pre-step is the standard conversion, exact over the rationals with one rounding at the
end, halves upward; and its values at the three primaries. -/
def Obligations.HsvIsTheRationalFormula : Prop :=
  (∀ h sat v : W16,
    let p := hsvToRgb h sat v
    let S : ℚ := ((max 0 (min sat.toInt 16384) : Int) : ℚ) / 16384
    let V : ℚ := ((max 0 (min v.toInt 16384) : Int) : ℚ) / 16384
    let hw : Int := h.toInt % 360
    let C : ℚ := V * S
    let X : ℚ := C * (1 - |((hw % 120 : Int) : ℚ) / 60 - 1|)
    let m : ℚ := V - C
    let is : ℚ → ℚ → ℚ → Prop := fun r g b =>
      ((p.1.toNat : Int) = ⌊255 * (r + m) + 1 / 2⌋) ∧
      ((p.2.1.toNat : Int) = ⌊255 * (g + m) + 1 / 2⌋) ∧
      ((p.2.2.toNat : Int) = ⌊255 * (b + m) + 1 / 2⌋)
    (hw / 60 = 0 → is C X 0) ∧ (hw / 60 = 1 → is X C 0) ∧ (hw / 60 = 2 → is 0 C X) ∧
    (hw / 60 = 3 → is 0 X C) ∧ (hw / 60 = 4 → is X 0 C) ∧ (hw / 60 = 5 → is C 0 X) ∧
    0 ≤ hw ∧ hw < 360) ∧
  hsvToRgb 0 0x4000 0x4000 = (255, 0, 0) ∧ hsvToRgb 120 0x4000 0x4000 = (0, 255, 0) ∧
  hsvToRgb 240 0x4000 0x4000 = (0, 0, 255)

/-- A show that fails at write k in a setter leaves the frame written, the writes before it made and
answered, the failing one in the trace, the ones after it not made, and FATAL set. That the rules'
command bytes and 0x54 are the CMD_ parameters and I2C_ADDR of R5 is the model's reading (log 19).
-/
def Obligations.FailedShowKeepsTheFrame : Prop :=
  ∀ (s : State) (r g b : Byte) (h sat v : W16) (k : Nat), s.err.fatal = false →
    s.i2cOpen = true → k < 3 → s.FailsAt k →
    let p := hsvToRgb h sat v
    let cut : Instr → Memory → Prop := fun i f' =>
      exec i s =
        .next ((({ s with frame := f' } : State).busFailed (showWrites s.cfg f'.read) k).afterError
          (encode i) .transportFailure (BitVec.ofNat 32 k))
    (∀ l : BitVec 4, l.toNat < 6 →
      (∃ f', LightWritten s.frame f' l.toNat r g b ∧
        cut (.uset l true (r.setWidth 16) (g.setWidth 16) (b.setWidth 16)) f') ∧
      (∃ f', LightWritten s.frame f' l.toNat 0 0 0 ∧ cut (.uclr l true) f') ∧
      ∃ f', LightWritten s.frame f' l.toNat p.1 p.2.1 p.2.2 ∧ cut (.uhsv l true h sat v) f') ∧
    (∃ f', AllLightsWritten s.frame f' r g b ∧
      cut (.ufill true (r.setWidth 16) (g.setWidth 16) (b.setWidth 16)) f') ∧
    (∃ f', AllLightsWritten s.frame f' 0 0 0 ∧ cut (.uclrall true) f') ∧
    ∃ f', AllLightsWritten s.frame f' p.1 p.2.1 p.2.2 ∧ cut (.ufillhsv true h sat v) f'

/-! ### The ultrasound engine -/

/-- URD clears the read's registers and starts the first gap; with no sample asked it finishes at
once with a time-out. -/
def Obligations.ReadStartsOrFinishesAtOnce : Prop :=
  ∀ (s : State) (n : BitVec 8), s.err.fatal = false → s.us.st = .idle →
    (n ≠ 0 →
      exec (.urd n) s =
        .next (({ s with us := ⟨.gap, n, 0, 0, 0, 0, 0, false, 0, 0, .none, 0, false⟩ } :
          State).afterOk 0)) ∧
    (s.LeavesOk 1 →
      exec (.urd 0) s =
        .next ((({ s with trig := false,
                          us := ⟨.idle, 0, 0, s.us.ctr, 0, 0, 0, false, 0, 0, .timeout, 0, true⟩ } :
          State).leavesMade 1).afterOk 0))

/-- UGET collects a finished read: the distance, or the status of its outcome with the number of
cycles started; only US_DONE is cleared. -/
def Obligations.GetReportsTheOutcome : Prop :=
  ∀ s : State, s.err.fatal = false → s.us.st = .idle → s.us.done = true →
    let t : State := { s with us := { s.us with done := false } }
    let info : W32 := s.us.idx.setWidth 32
    (s.us.res = .ok → exec .uget s = .next (t.afterOk s.us.dist)) ∧
    (s.us.res = .timeout →
      exec .uget s = .next (t.afterError (encode .uget) .sensorTimeout info)) ∧
    (s.us.res = .cancelled →
      exec .uget s = .next (t.afterError (encode .uget) .cancelled info)) ∧
    (s.us.res = .transport →
      exec .uget s = .next (t.afterError (encode .uget) .transportFailure 0)) ∧
    (s.us.res = .none → exec .uget s = .next (t.afterError (encode .uget) .noResult 0))

/-- UCANCEL stops a read in whatever state it is, forces the trigger line low and answers 1; with
nothing running it answers 0 and changes nothing. -/
def Obligations.CancelStopsTheRead : Prop :=
  encode .ucancel = 0x5100000000000000 ∧
  ∀ s : State, s.err.fatal = false →
    (s.us.st = .idle → exec .ucancel s = .next (s.afterOk 0)) ∧
    (s.us.st ≠ .idle → s.LeavesOk 1 →
      exec .ucancel s =
        .next ((({ s with trig := false,
                          us := { s.us with st := .idle, res := .cancelled, dist := 0,
                                            done := true } } : State).leavesMade 1).afterOk 1))

/-- A gap with US_CTR = g: the trigger line stays low for g ticks, rises at tick g + 1 with the cycle
counted, and is high for exactly TRIG_TICKS ticks; then the wait starts with the echo level of that
tick remembered. -/
def Obligations.TriggerPulseLastsItsTicks : Prop :=
  ∀ (s : State) (samples : List Sample) (x : Sample), s.cfg.leafCanFail = false →
    s.cfg.trigTicks ≠ 0 → s.us.st = .gap → s.trig = false → s.usTune.overall = 0 →
    let g := s.us.ctr.toNat
    let n := samples.length + 1
    let t := s.afterTicks (samples ++ [x])
    (n ≤ g →
      t.trig = false ∧ t.us.st = .gap ∧ t.us.idx = s.us.idx ∧ t.us.ctr.toNat = g - n) ∧
    (g + 1 ≤ n → n ≤ g + s.cfg.trigTicks.toNat →
      t.trig = true ∧ t.us.st = .trig ∧ t.us.idx = s.us.idx + 1 ∧
      t.us.ctr.toNat = g + 1 + s.cfg.trigTicks.toNat - n) ∧
    (n = g + 1 + s.cfg.trigTicks.toNat →
      t.trig = false ∧ t.us.st = .waitRise ∧ t.us.idx = s.us.idx + 1 ∧ t.us.scnt = 0 ∧
      t.us.eprev = x.echo)

/-- A tick of WAIT_RISE: a rising edge starts the stopwatch, also at the tick of the time-out; else
the time-out abandons the sample; else the wait goes on. -/
def Obligations.WaitRiseTick : Prop :=
  ∀ (s : State) (e : Bool), s.us.st = .waitRise → s.LeavesOk 1 →
    (s.usTune.overall = 0 ∨ (countUp s.us.ocnt).toNat < s.usTune.overall.toNat) →
    let u : Engine :=
      { s.us with ocnt := countUp s.us.ocnt, scnt := countUp s.us.scnt, eprev := e }
    (s.us.eprev = false ∧ e = true →
      s.engineTick e = { s with us := { u with stopw := 0, st := .waitFall } }) ∧
    (¬ (s.us.eprev = false ∧ e = true) → s.usTune.sampleTo.toNat ≤ u.scnt.toNat →
      s.engineTick e = s.sampleOver u) ∧
    (¬ (s.us.eprev = false ∧ e = true) → u.scnt.toNat < s.usTune.sampleTo.toNat →
      s.engineTick e = { s with us := u })

/-- A tick of WAIT_FALL: a falling edge adds the corrected time, clamped at 0, and the sample; else
the time-out abandons the sample; else the stopwatch runs on. -/
def Obligations.WaitFallTick : Prop :=
  ∀ (s : State) (e : Bool), s.us.st = .waitFall → s.LeavesOk 1 →
    (s.usTune.overall = 0 ∨ (countUp s.us.ocnt).toNat < s.usTune.overall.toNat) →
    let u : Engine :=
      { s.us with ocnt := countUp s.us.ocnt, scnt := countUp s.us.scnt,
                  stopw := countUp s.us.stopw, eprev := e }
    (s.us.eprev = true ∧ e = false → ∃ total : W32,
      (total.toNat : Int) =
        min (s.us.total.toNat + max 0 ((u.stopw.toNat : Int) - s.usTune.offset.toNat))
          (2 ^ 32 - 1) ∧
      s.engineTick e = s.sampleOver { u with total := total, cnt := s.us.cnt + 1 }) ∧
    (¬ (s.us.eprev = true ∧ e = false) → s.usTune.sampleTo.toNat ≤ u.scnt.toNat →
      s.engineTick e = s.sampleOver u) ∧
    (¬ (s.us.eprev = true ∧ e = false) → u.scnt.toNat < s.usTune.sampleTo.toNat →
      s.engineTick e = { s with us := u })

/-- US_OVERALL ticks after a read's start the read has finished, whatever the echo line does. -/
def Obligations.OverallTimeoutEndsTheRead : Prop :=
  ∀ (s : State) (samples : List Sample), s.cfg.leafCanFail = false → s.us.st ≠ .idle →
    s.us.ocnt = 0 → s.usTune.overall ≠ 0 → samples.length = s.usTune.overall.toNat →
    let t := s.afterTicks samples
    t.us.st = .idle ∧ t.us.done = true ∧
    (t.us.cnt = 0 → t.us.res = .timeout ∧ t.us.dist = 0) ∧
    (t.us.cnt ≠ 0 → t.us.res = .ok ∧ t.us.dist = distance s.cfg t.us.total.toNat t.us.cnt.toNat)

/-- The distance is the exact rational value in Q16.16, floored once and saturated; with the default
parameters it is `floor(T * 702464 / (625 * n))`. -/
def Obligations.DistanceIsTheFlooredQuotient : Prop :=
  ∀ (cfg : Config) (T n : Nat), 0 < cfg.tickHz → 0 < cfg.sosDen → 1 ≤ n →
    ((distance cfg T n).toNat : Int) =
      min (2 ^ 32 - 1)
        ⌊(T : ℚ) * 1000 * cfg.sosNum * 65536 / (cfg.tickHz * cfg.sosDen * 2 * n)⌋ ∧
    (distance Config.standard T n).toNat = min (2 ^ 32 - 1) (T * 702464 / (625 * n))

/-- A read without an overall limit ends within its bound whatever the echo line does: every cycle
takes at most a gap, a pulse, the wait budget (one tick at least) and two ticks more. -/
def Obligations.EveryReadEndsWithinItsBound : Prop :=
  ∀ (s : State) (samples : List Sample), s.cfg.leafCanFail = false → s.cfg.trigTicks ≠ 0 →
    s.us.st = .gap → s.us.ctr = 0 → s.us.idx = 0 → s.us.req ≠ 0 → s.usTune.overall = 0 →
    s.us.req.toNat * (1 + s.usTune.gap.toNat + s.cfg.trigTicks.toNat +
      max s.usTune.sampleTo.toNat 1 + 1) ≤ samples.length →
    let t := s.afterTicks samples
    t.us.st = .idle ∧ t.us.done = true ∧ t.us.idx = s.us.req ∧
    (t.us.res = .ok ∨ t.us.res = .timeout)

/-! ### The whole machine -/

/-- While FATAL = 1 every command but RD, NOP and SRST answers Fatal and does nothing else; the
agents of a tick go on as if FATAL were 0. -/
def Obligations.FatalRefusesAllButThreeCommands : Prop :=
  (∀ (s : State) (i : Instr), s.err.fatal = true → ¬ i.fatalExempt → i.wellFormed = true →
    exec i s = .next (s.afterError (encode i) .fatal 0)) ∧
  ∀ (s : State) (f : Bool) (x : Sample), s.cfg.leafCanFail = false →
    ({ s with err := { s.err with fatal := f } } : State).tickStep x =
      { s.tickStep x with err := { s.err with fatal := f } }

/-- The state checks: a bus command with the bus closed is NotOpen, UINIT with it open AlreadyOpen;
URD, UGET and WR of an ultrasound tunable while a read runs are Busy with its state; UGET with no
result is NoResult. None changes anything else. -/
def Obligations.StateChecksRefuseTheCommand : Prop :=
  ∀ (s : State) (i : Instr), s.err.fatal = false →
    (i.needsBus → s.i2cOpen = false → exec i s = .next (s.afterError (encode i) .notOpen 0)) ∧
    (i = .uinit → s.i2cOpen = true → exec i s = .next (s.afterError (encode i) .alreadyOpen 0)) ∧
    (i.needsIdle → s.us.st ≠ .idle →
      exec i s = .next (s.afterError (encode i) .busy (s.us.st.code.setWidth 32))) ∧
    (i = .uget → s.us.st = .idle → s.us.done = false →
      exec i s = .next (s.afterError (encode i) .noResult 0))

/-- Every command ends, with one response; every one but SRST counts once; one that ends OK leaves
the error record, one that ends otherwise loads it, and a transport failure sets FATAL. The status
codes are those of the table. -/
def Obligations.EveryCommandEndsOnce : Prop :=
  [Status.ok, .invalidInput, .transportFailure, .sensorTimeout, .invalidCommand, .busy, .notOpen,
    .alreadyOpen, .fatal, .cancelled, .noResult].map Status.code =
    [0x00, 0x01, 0x02, 0x03, 0x04, 0x05, 0x06, 0x07, 0x08, 0x09, 0x0A] ∧
  ∀ (s : State) (i : Instr), ∃ t e v, exec i s = .next t ∧
    t.env.responses = s.env.responses ++ [e.code ++ (0 : BitVec 24) ++ v] ∧
    (i ≠ .srst → t.cmdseq = s.cmdseq + 1) ∧ (i = .srst → t.cmdseq = 0 ∧ e = .ok ∧ v = 0) ∧
    (e = .ok → i ≠ .srst → t.err = s.err) ∧
    (e ≠ .ok → t.err =
      ⟨e, s.cmdseq, encode i, v, s.err.fatal || decide (e = .transportFailure)⟩)

/-- A command that ends with a status other than OK and TransportFailure changes nothing but CMDSEQ
and the error record; UGET may clear US_DONE besides. -/
def Obligations.RejectedCommandChangesOnlyTheRecord : Prop :=
  ∀ (s t : State) (i : Instr) (rsp : W64), exec i s = .next t →
    t.env.responses = s.env.responses ++ [rsp] → statusField rsp ≠ 0x00 → statusField rsp ≠ 0x02 →
    (i ≠ .uget → s.OnlyRecorded t) ∧
    (i = .uget →
      s.OnlyRecorded t ∨ ({ s with us := { s.us with done := false } } : State).OnlyRecorded t)

/-- Which steps lower an interrupt line: irq_fatal only SRST and the reset pin, irq_us also UGET and
URD, irq_sub[j] also BACK and BUNSUB of slot j. That the slots are N_SUB in number, the rules'
`0..3` and `s > 3`, is the model's reading (log 19). -/
def Obligations.InterruptLinesFallOnlyOnTheirCommands : Prop :=
  ∀ s t : State, step s = .next t →
    let via : (Instr → Prop) → Prop := fun P =>
      ∃ s', s.Offers .rst s' ∨
        ∃ cw i, s.Offers (.command cw) s' ∧ decode cw = .ok i ∧ (i = .srst ∨ P i)
    (s.irqFatal = true → t.irqFatal = false → via fun _ => False) ∧
    (s.irqUs = true → t.irqUs = false → via fun i => i = .uget ∨ ∃ n, i = .urd n) ∧
    ∀ j : Nat, s.irqSub j = true → t.irqSub j = false →
      via fun i => ∃ slot m, slot.toNat = j ∧ (i = .back slot m ∨ i = .bunsub slot m)

/-- The bus trace only grows, by entries to I2C_ADDR (default 0x54) in the six forms of the table,
except that the reset pin empties it. That the rules' command bytes and 0x54 are the CMD_ parameters
and I2C_ADDR of R5 is the model's reading (log 19). -/
def Obligations.BusTraceOnlyGrowsByTheSixForms : Prop :=
  Config.standard.i2cAddr = 0x54 ∧ Config.standard.cmdEnable = 0x00 ∧
  Config.standard.cmdSetval = 0x01 ∧ Config.standard.cmdLeds = 0x13 ∧
  Config.standard.cmdUpdate = 0x16 ∧ Config.standard.cmdReset = 0x17 ∧
  ∀ s t : State, step s = .next t →
    (∃ more, t.trace = s.trace ++ more ∧
      ∀ w ∈ more, w.address = s.cfg.i2cAddr ∧ BusForm s.cfg w.bytes) ∨
    ((∃ s', s.Offers .rst s') ∧ t.trace = [])

/-- Every step keeps the invariant. The slots, the stage and the bus writes are those of the
parameters (log 19). -/
def Obligations.StepKeepsTheInvariant : Prop :=
  ∀ s t : State, s.Inv → step s = .next t → t.Inv

/-- The state after reset has the invariant. -/
def Obligations.ResetHasTheInvariant : Prop := State.reset.Inv
end

