-- ==== Sys2Proof/Laws/Encoding.lean ====
section
/-! SUPPORT. The field cut of a packed word, and the parts of the split operands. -/

namespace Sys2Proof

/-- A slice that starts above the lower part is a slice of the upper part. -/
theorem extract_above {w v : Nat} (x : BitVec w) (y : BitVec v) (start len : Nat) :
    (x ++ y).extractLsb' (v + start) len = x.extractLsb' start len := by
  ext i hi
  simp [BitVec.getLsbD_append, show ¬ v + start + i < v by omega,
    show v + start + i - v = start + i by omega]

/-- The lower part. -/
theorem extract_below {w v : Nat} (x : BitVec w) (y : BitVec v) :
    (x ++ y).extractLsb' 0 v = y := by
  ext i hi
  simp [BitVec.getLsbD_append, hi, BitVec.getLsbD_eq_getElem]

/-- The upper part. -/
theorem extract_upper {w v : Nat} (x : BitVec w) (y : BitVec v) :
    (x ++ y).extractLsb' v w = x := by
  have h := extract_above x y 0 w
  rw [BitVec.extractLsb'_eq_self] at h
  exact h

/-- A word put together from its two slices. -/
theorem append_extract {w v : Nat} (x : BitVec (w + v)) :
    x.extractLsb' v w ++ x.extractLsb' 0 v = x := by
  simp

section pack
variable (opc : BitVec 8) (a b : BitVec 4) (h2 h1 h0 : W16)

theorem pack_opc : (pack opc a b h2 h1 h0).extractLsb' 56 8 = opc :=
  (extract_above (opc ++ a ++ b ++ h2 ++ h1) h0 40 8).trans <|
  (extract_above (opc ++ a ++ b ++ h2) h1 24 8).trans <|
  (extract_above (opc ++ a ++ b) h2 8 8).trans <|
  (extract_above (opc ++ a) b 4 8).trans (extract_upper opc a)

theorem pack_a : (pack opc a b h2 h1 h0).extractLsb' 52 4 = a :=
  (extract_above (opc ++ a ++ b ++ h2 ++ h1) h0 36 4).trans <|
  (extract_above (opc ++ a ++ b ++ h2) h1 20 4).trans <|
  (extract_above (opc ++ a ++ b) h2 4 4).trans <|
  (extract_above (opc ++ a) b 0 4).trans (extract_below opc a)

theorem pack_b : (pack opc a b h2 h1 h0).extractLsb' 48 4 = b :=
  (extract_above (opc ++ a ++ b ++ h2 ++ h1) h0 32 4).trans <|
  (extract_above (opc ++ a ++ b ++ h2) h1 16 4).trans <|
  (extract_above (opc ++ a ++ b) h2 0 4).trans (extract_below (opc ++ a) b)

theorem pack_h2 : (pack opc a b h2 h1 h0).extractLsb' 32 16 = h2 :=
  (extract_above (opc ++ a ++ b ++ h2 ++ h1) h0 16 16).trans <|
  (extract_above (opc ++ a ++ b ++ h2) h1 0 16).trans (extract_below (opc ++ a ++ b) h2)

theorem pack_h1 : (pack opc a b h2 h1 h0).extractLsb' 16 16 = h1 :=
  (extract_above (opc ++ a ++ b ++ h2 ++ h1) h0 0 16).trans (extract_below (opc ++ a ++ b ++ h2) h1)

theorem pack_h0 : (pack opc a b h2 h1 h0).extractLsb' 0 16 = h0 :=
  extract_below (opc ++ a ++ b ++ h2 ++ h1) h0

/-- The field cut of a packed word gives the fields back (30_encoding.md R91). -/
@[simp] theorem fieldsOf_pack : fieldsOf (pack opc a b h2 h1 h0) = ⟨opc, a, b, h2, h1, h0⟩ := by
  unfold fieldsOf
  rw [pack_opc, pack_a, pack_b, pack_h2, pack_h1, pack_h0]

end pack

/-- Packing the field cut of a word gives the word back (30_encoding.md R91). -/
theorem pack_fieldsOf (cw : W64) :
    pack (fieldsOf cw).opc (fieldsOf cw).a (fieldsOf cw).b (fieldsOf cw).h2 (fieldsOf cw).h1
      (fieldsOf cw).h0 = cw := by
  have e : ∀ (lo m n : Nat), cw.extractLsb' (lo + n) m ++ cw.extractLsb' lo n =
      cw.extractLsb' lo (m + n) := by
    intro lo m n
    ext i hi
    by_cases h : i < n
    · simp [BitVec.getElem_append, h]
    · simp [BitVec.getElem_append, h, show lo + n + (i - n) = lo + i by omega]
  have h1 : cw.extractLsb' 56 8 ++ cw.extractLsb' 52 4 = cw.extractLsb' 52 12 := e 52 8 4
  have h2 : cw.extractLsb' 52 12 ++ cw.extractLsb' 48 4 = cw.extractLsb' 48 16 := e 48 12 4
  have h3 : cw.extractLsb' 48 16 ++ cw.extractLsb' 32 16 = cw.extractLsb' 32 32 := e 32 16 16
  have h4 : cw.extractLsb' 32 32 ++ cw.extractLsb' 16 16 = cw.extractLsb' 16 48 := e 16 32 16
  have h5 : cw.extractLsb' 16 48 ++ cw.extractLsb' 0 16 = cw.extractLsb' 0 64 := e 0 48 16
  unfold pack fieldsOf
  dsimp only
  rw [h1, h2, h3, h4, h5]
  exact BitVec.extractLsb'_eq_self

/-! ### The word operand -/

@[simp] theorem wordOf_hi16_lo16 (w : W32) : wordOf (hi16 w) (lo16 w) = w :=
  append_extract (w := 16) (v := 16) w

@[simp] theorem hi16_wordOf (h1 h0 : W16) : hi16 (wordOf h1 h0) = h1 := extract_upper h1 h0

@[simp] theorem lo16_wordOf (h1 h0 : W16) : lo16 (wordOf h1 h0) = h0 := extract_below h1 h0

/-! ### Operands narrower than their field -/

/-- A widened operand reads back. -/
theorem extract_setWidth {n : Nat} (x : BitVec n) (m : Nat) (h : n ≤ m) :
    (x.setWidth m).extractLsb' 0 n = x := by
  ext i hi
  simp [show i < m by omega, BitVec.getLsbD_eq_getElem, hi]

/-- The bits of the field above a widened operand are zero. -/
theorem extract_setWidth_above {n : Nat} (x : BitVec n) (m len : Nat) :
    (x.setWidth m).extractLsb' n len = 0 := by
  ext i hi
  simp

/-- A field whose upper bits are zero is its widened operand. -/
theorem setWidth_extract {m : Nat} (n len : Nat) (h : n + len = m) (x : BitVec m)
    (hz : x.extractLsb' n len = 0) : (x.extractLsb' 0 n).setWidth m = x := by
  ext i hi
  by_cases hn : i < n
  · simp [hn, BitVec.getLsbD_eq_getElem, hi]
  · have : (x.extractLsb' n len).getLsbD (i - n) = false := by rw [hz]; simp
    rw [BitVec.getLsbD_extractLsb'] at this
    simp only [show i - n < len by omega, decide_true, Bool.true_and,
      show n + (i - n) = i by omega] at this
    simp [hn, ← BitVec.getLsbD_eq_getElem, this]

@[simp] theorem halfOfBit_bit (on : Bool) : (halfOfBit on)[0] = on := by cases on <;> rfl
@[simp] theorem halfOfBit_above (on : Bool) : (halfOfBit on).extractLsb' 1 15 = 0 := by
  cases on <;> rfl
@[simp] theorem flagsOfShow_bit (sh : Bool) : (flagsOfShow sh)[0] = sh := by cases sh <;> rfl
@[simp] theorem flagsOfShow_above (sh : Bool) : (flagsOfShow sh).extractLsb' 1 3 = 0 := by
  cases sh <;> rfl

theorem halfOfBit_of (h : W16) (hz : h.extractLsb' 1 15 = 0) : halfOfBit h[0] = h := by
  have e : h.extractLsb' 0 1 = BitVec.ofBool h[0] := by
    ext i hi
    obtain rfl : i = 0 := by omega
    simp
  rw [halfOfBit, ← e]
  exact setWidth_extract 1 15 rfl h hz

theorem flagsOfShow_of (h : BitVec 4) (hz : h.extractLsb' 1 3 = 0) :
    flagsOfShow h[0] = h := by
  have e : h.extractLsb' 0 1 = BitVec.ofBool h[0] := by
    ext i hi
    obtain rfl : i = 0 := by omega
    simp
  rw [flagsOfShow, ← e]
  exact setWidth_extract 1 3 rfl h hz

/-! ### The must-be-zero check -/

/-- A format accepts a word exactly when its must-be-zero bits are zero. -/
theorem legalIf_ok {f : Fields} {zero : Bool} {i j : Instr} :
    legalIf f zero i = .ok j ↔ zero = true ∧ i = j := by
  cases zero <;> simp [legalIf]

/-- A word a format refuses is reported with its opcode. -/
theorem legalIf_error {f : Fields} {zero : Bool} {i : Instr} {e : DecodeError} :
    legalIf f zero i = .error e ↔ zero = false ∧ e = .reservedBits f.opc := by
  cases zero <;> simp [legalIf, eq_comm]

end Sys2Proof
end

