-- ==== Sys2Proof/Laws/State.lean ====
section
/-! SUPPORT. Every field of the state after every named update: the fields an update does not touch
are those of before. -/

namespace Sys2Proof.Machine

/-! ### `countAsked` -/

@[simp] theorem State.countAsked_cfg (s : State) : s.countAsked.cfg = s.cfg := rfl
@[simp] theorem State.countAsked_env (s : State) :
    s.countAsked.env = { s.env with asked := s.env.asked + 1 } := rfl
@[simp] theorem State.countAsked_cmdseq (s : State) : s.countAsked.cmdseq = s.cmdseq := rfl
@[simp] theorem State.countAsked_now (s : State) : s.countAsked.now = s.now := rfl
@[simp] theorem State.countAsked_err (s : State) : s.countAsked.err = s.err := rfl
@[simp] theorem State.countAsked_motors (s : State) : s.countAsked.motors = s.motors := rfl
@[simp] theorem State.countAsked_motorEn (s : State) : s.countAsked.motorEn = s.motorEn := rfl
@[simp] theorem State.countAsked_btnEn (s : State) : s.countAsked.btnEn = s.btnEn := rfl
@[simp] theorem State.countAsked_btnTune (s : State) : s.countAsked.btnTune = s.btnTune := rfl
@[simp] theorem State.countAsked_channels (s : State) : s.countAsked.channels = s.channels := rfl
@[simp] theorem State.countAsked_ledDuty (s : State) : s.countAsked.ledDuty = s.ledDuty := rfl
@[simp] theorem State.countAsked_blinkActive (s : State) :
    s.countAsked.blinkActive = s.blinkActive := rfl
@[simp] theorem State.countAsked_blinkTimer (s : State) :
    s.countAsked.blinkTimer = s.blinkTimer := rfl
@[simp] theorem State.countAsked_subs (s : State) : s.countAsked.subs = s.subs := rfl
@[simp] theorem State.countAsked_evcnt (s : State) : s.countAsked.evcnt = s.evcnt := rfl
@[simp] theorem State.countAsked_i2cOpen (s : State) : s.countAsked.i2cOpen = s.i2cOpen := rfl
@[simp] theorem State.countAsked_frame (s : State) : s.countAsked.frame = s.frame := rfl
@[simp] theorem State.countAsked_stage (s : State) : s.countAsked.stage = s.stage := rfl
@[simp] theorem State.countAsked_trace (s : State) : s.countAsked.trace = s.trace := rfl
@[simp] theorem State.countAsked_usTune (s : State) : s.countAsked.usTune = s.usTune := rfl
@[simp] theorem State.countAsked_us (s : State) : s.countAsked.us = s.us := rfl
@[simp] theorem State.countAsked_trig (s : State) : s.countAsked.trig = s.trig := rfl

/-! ### `respond` -/

@[simp] theorem State.respond_cfg (s : State) (w : W64) : (s.respond w).cfg = s.cfg := rfl
@[simp] theorem State.respond_env (s : State) (w : W64) :
    (s.respond w).env = { s.env with responses := s.env.responses ++ [w] } := rfl
@[simp] theorem State.respond_cmdseq (s : State) (w : W64) : (s.respond w).cmdseq = s.cmdseq := rfl
@[simp] theorem State.respond_now (s : State) (w : W64) : (s.respond w).now = s.now := rfl
@[simp] theorem State.respond_err (s : State) (w : W64) : (s.respond w).err = s.err := rfl
@[simp] theorem State.respond_motors (s : State) (w : W64) : (s.respond w).motors = s.motors := rfl
@[simp] theorem State.respond_motorEn (s : State) (w : W64) :
    (s.respond w).motorEn = s.motorEn := rfl
@[simp] theorem State.respond_btnEn (s : State) (w : W64) : (s.respond w).btnEn = s.btnEn := rfl
@[simp] theorem State.respond_btnTune (s : State) (w : W64) :
    (s.respond w).btnTune = s.btnTune := rfl
@[simp] theorem State.respond_channels (s : State) (w : W64) :
    (s.respond w).channels = s.channels := rfl
@[simp] theorem State.respond_ledDuty (s : State) (w : W64) :
    (s.respond w).ledDuty = s.ledDuty := rfl
@[simp] theorem State.respond_blinkActive (s : State) (w : W64) :
    (s.respond w).blinkActive = s.blinkActive := rfl
@[simp] theorem State.respond_blinkTimer (s : State) (w : W64) :
    (s.respond w).blinkTimer = s.blinkTimer := rfl
@[simp] theorem State.respond_subs (s : State) (w : W64) : (s.respond w).subs = s.subs := rfl
@[simp] theorem State.respond_evcnt (s : State) (w : W64) : (s.respond w).evcnt = s.evcnt := rfl
@[simp] theorem State.respond_i2cOpen (s : State) (w : W64) :
    (s.respond w).i2cOpen = s.i2cOpen := rfl
@[simp] theorem State.respond_frame (s : State) (w : W64) : (s.respond w).frame = s.frame := rfl
@[simp] theorem State.respond_stage (s : State) (w : W64) : (s.respond w).stage = s.stage := rfl
@[simp] theorem State.respond_trace (s : State) (w : W64) : (s.respond w).trace = s.trace := rfl
@[simp] theorem State.respond_usTune (s : State) (w : W64) : (s.respond w).usTune = s.usTune := rfl
@[simp] theorem State.respond_us (s : State) (w : W64) : (s.respond w).us = s.us := rfl
@[simp] theorem State.respond_trig (s : State) (w : W64) : (s.respond w).trig = s.trig := rfl

/-! ### `countCommand` -/

@[simp] theorem State.countCommand_cfg (s : State) : s.countCommand.cfg = s.cfg := rfl
@[simp] theorem State.countCommand_env (s : State) : s.countCommand.env = s.env := rfl
@[simp] theorem State.countCommand_cmdseq (s : State) : s.countCommand.cmdseq = s.cmdseq + 1 := rfl
@[simp] theorem State.countCommand_now (s : State) : s.countCommand.now = s.now := rfl
@[simp] theorem State.countCommand_err (s : State) : s.countCommand.err = s.err := rfl
@[simp] theorem State.countCommand_motors (s : State) : s.countCommand.motors = s.motors := rfl
@[simp] theorem State.countCommand_motorEn (s : State) : s.countCommand.motorEn = s.motorEn := rfl
@[simp] theorem State.countCommand_btnEn (s : State) : s.countCommand.btnEn = s.btnEn := rfl
@[simp] theorem State.countCommand_btnTune (s : State) : s.countCommand.btnTune = s.btnTune := rfl
@[simp] theorem State.countCommand_channels (s : State) :
    s.countCommand.channels = s.channels := rfl
@[simp] theorem State.countCommand_ledDuty (s : State) : s.countCommand.ledDuty = s.ledDuty := rfl
@[simp] theorem State.countCommand_blinkActive (s : State) :
    s.countCommand.blinkActive = s.blinkActive := rfl
@[simp] theorem State.countCommand_blinkTimer (s : State) :
    s.countCommand.blinkTimer = s.blinkTimer := rfl
@[simp] theorem State.countCommand_subs (s : State) : s.countCommand.subs = s.subs := rfl
@[simp] theorem State.countCommand_evcnt (s : State) : s.countCommand.evcnt = s.evcnt := rfl
@[simp] theorem State.countCommand_i2cOpen (s : State) : s.countCommand.i2cOpen = s.i2cOpen := rfl
@[simp] theorem State.countCommand_frame (s : State) : s.countCommand.frame = s.frame := rfl
@[simp] theorem State.countCommand_stage (s : State) : s.countCommand.stage = s.stage := rfl
@[simp] theorem State.countCommand_trace (s : State) : s.countCommand.trace = s.trace := rfl
@[simp] theorem State.countCommand_usTune (s : State) : s.countCommand.usTune = s.usTune := rfl
@[simp] theorem State.countCommand_us (s : State) : s.countCommand.us = s.us := rfl
@[simp] theorem State.countCommand_trig (s : State) : s.countCommand.trig = s.trig := rfl

/-! ### `recordError` -/

@[simp] theorem State.recordError_cfg (s : State) (cw : W64) (f : Failure) :
    (s.recordError cw f).cfg = s.cfg := rfl
@[simp] theorem State.recordError_env (s : State) (cw : W64) (f : Failure) :
    (s.recordError cw f).env = s.env := rfl
@[simp] theorem State.recordError_cmdseq (s : State) (cw : W64) (f : Failure) :
    (s.recordError cw f).cmdseq = s.cmdseq := rfl
@[simp] theorem State.recordError_now (s : State) (cw : W64) (f : Failure) :
    (s.recordError cw f).now = s.now := rfl
@[simp] theorem State.recordError_err (s : State) (cw : W64) (f : Failure) :
    (s.recordError cw f).err =
    { lasterr := f.status, errseq := s.cmdseq, errcmd := cw, errinfo := f.info,
      fatal := s.err.fatal || f.status == .transportFailure } :=
  rfl
@[simp] theorem State.recordError_motors (s : State) (cw : W64) (f : Failure) :
    (s.recordError cw f).motors = s.motors := rfl
@[simp] theorem State.recordError_motorEn (s : State) (cw : W64) (f : Failure) :
    (s.recordError cw f).motorEn = s.motorEn := rfl
@[simp] theorem State.recordError_btnEn (s : State) (cw : W64) (f : Failure) :
    (s.recordError cw f).btnEn = s.btnEn := rfl
@[simp] theorem State.recordError_btnTune (s : State) (cw : W64) (f : Failure) :
    (s.recordError cw f).btnTune = s.btnTune := rfl
@[simp] theorem State.recordError_channels (s : State) (cw : W64) (f : Failure) :
    (s.recordError cw f).channels = s.channels := rfl
@[simp] theorem State.recordError_ledDuty (s : State) (cw : W64) (f : Failure) :
    (s.recordError cw f).ledDuty = s.ledDuty := rfl
@[simp] theorem State.recordError_blinkActive (s : State) (cw : W64) (f : Failure) :
    (s.recordError cw f).blinkActive = s.blinkActive := rfl
@[simp] theorem State.recordError_blinkTimer (s : State) (cw : W64) (f : Failure) :
    (s.recordError cw f).blinkTimer = s.blinkTimer := rfl
@[simp] theorem State.recordError_subs (s : State) (cw : W64) (f : Failure) :
    (s.recordError cw f).subs = s.subs := rfl
@[simp] theorem State.recordError_evcnt (s : State) (cw : W64) (f : Failure) :
    (s.recordError cw f).evcnt = s.evcnt := rfl
@[simp] theorem State.recordError_i2cOpen (s : State) (cw : W64) (f : Failure) :
    (s.recordError cw f).i2cOpen = s.i2cOpen := rfl
@[simp] theorem State.recordError_frame (s : State) (cw : W64) (f : Failure) :
    (s.recordError cw f).frame = s.frame := rfl
@[simp] theorem State.recordError_stage (s : State) (cw : W64) (f : Failure) :
    (s.recordError cw f).stage = s.stage := rfl
@[simp] theorem State.recordError_trace (s : State) (cw : W64) (f : Failure) :
    (s.recordError cw f).trace = s.trace := rfl
@[simp] theorem State.recordError_usTune (s : State) (cw : W64) (f : Failure) :
    (s.recordError cw f).usTune = s.usTune := rfl
@[simp] theorem State.recordError_us (s : State) (cw : W64) (f : Failure) :
    (s.recordError cw f).us = s.us := rfl
@[simp] theorem State.recordError_trig (s : State) (cw : W64) (f : Failure) :
    (s.recordError cw f).trig = s.trig := rfl

/-! ### `endOk` -/

@[simp] theorem State.endOk_cfg (s : State) (v : W32) : (s.endOk v).cfg = s.cfg := rfl
@[simp] theorem State.endOk_env (s : State) (v : W32) :
    (s.endOk v).env = { s.env with responses := s.env.responses ++ [responseWord .ok v] } := rfl
@[simp] theorem State.endOk_cmdseq (s : State) (v : W32) : (s.endOk v).cmdseq = s.cmdseq + 1 := rfl
@[simp] theorem State.endOk_now (s : State) (v : W32) : (s.endOk v).now = s.now := rfl
@[simp] theorem State.endOk_err (s : State) (v : W32) : (s.endOk v).err = s.err := rfl
@[simp] theorem State.endOk_motors (s : State) (v : W32) : (s.endOk v).motors = s.motors := rfl
@[simp] theorem State.endOk_motorEn (s : State) (v : W32) : (s.endOk v).motorEn = s.motorEn := rfl
@[simp] theorem State.endOk_btnEn (s : State) (v : W32) : (s.endOk v).btnEn = s.btnEn := rfl
@[simp] theorem State.endOk_btnTune (s : State) (v : W32) : (s.endOk v).btnTune = s.btnTune := rfl
@[simp] theorem State.endOk_channels (s : State) (v : W32) :
    (s.endOk v).channels = s.channels := rfl
@[simp] theorem State.endOk_ledDuty (s : State) (v : W32) : (s.endOk v).ledDuty = s.ledDuty := rfl
@[simp] theorem State.endOk_blinkActive (s : State) (v : W32) :
    (s.endOk v).blinkActive = s.blinkActive := rfl
@[simp] theorem State.endOk_blinkTimer (s : State) (v : W32) :
    (s.endOk v).blinkTimer = s.blinkTimer := rfl
@[simp] theorem State.endOk_subs (s : State) (v : W32) : (s.endOk v).subs = s.subs := rfl
@[simp] theorem State.endOk_evcnt (s : State) (v : W32) : (s.endOk v).evcnt = s.evcnt := rfl
@[simp] theorem State.endOk_i2cOpen (s : State) (v : W32) : (s.endOk v).i2cOpen = s.i2cOpen := rfl
@[simp] theorem State.endOk_frame (s : State) (v : W32) : (s.endOk v).frame = s.frame := rfl
@[simp] theorem State.endOk_stage (s : State) (v : W32) : (s.endOk v).stage = s.stage := rfl
@[simp] theorem State.endOk_trace (s : State) (v : W32) : (s.endOk v).trace = s.trace := rfl
@[simp] theorem State.endOk_usTune (s : State) (v : W32) : (s.endOk v).usTune = s.usTune := rfl
@[simp] theorem State.endOk_us (s : State) (v : W32) : (s.endOk v).us = s.us := rfl
@[simp] theorem State.endOk_trig (s : State) (v : W32) : (s.endOk v).trig = s.trig := rfl

/-! ### `endFailed` -/

@[simp] theorem State.endFailed_cfg (s : State) (cw : W64) (f : Failure) :
    (s.endFailed cw f).cfg = s.cfg := rfl
@[simp] theorem State.endFailed_env (s : State) (cw : W64) (f : Failure) :
    (s.endFailed cw f).env = { s.env with responses := s.env.responses ++ [responseWord f.status f.info] } := rfl
@[simp] theorem State.endFailed_cmdseq (s : State) (cw : W64) (f : Failure) :
    (s.endFailed cw f).cmdseq = s.cmdseq + 1 := rfl
@[simp] theorem State.endFailed_now (s : State) (cw : W64) (f : Failure) :
    (s.endFailed cw f).now = s.now := rfl
@[simp] theorem State.endFailed_err (s : State) (cw : W64) (f : Failure) : (s.endFailed cw f).err =
    { lasterr := f.status, errseq := s.cmdseq, errcmd := cw, errinfo := f.info,
      fatal := s.err.fatal || f.status == .transportFailure } :=
  rfl
@[simp] theorem State.endFailed_motors (s : State) (cw : W64) (f : Failure) :
    (s.endFailed cw f).motors = s.motors := rfl
@[simp] theorem State.endFailed_motorEn (s : State) (cw : W64) (f : Failure) :
    (s.endFailed cw f).motorEn = s.motorEn := rfl
@[simp] theorem State.endFailed_btnEn (s : State) (cw : W64) (f : Failure) :
    (s.endFailed cw f).btnEn = s.btnEn := rfl
@[simp] theorem State.endFailed_btnTune (s : State) (cw : W64) (f : Failure) :
    (s.endFailed cw f).btnTune = s.btnTune := rfl
@[simp] theorem State.endFailed_channels (s : State) (cw : W64) (f : Failure) :
    (s.endFailed cw f).channels = s.channels := rfl
@[simp] theorem State.endFailed_ledDuty (s : State) (cw : W64) (f : Failure) :
    (s.endFailed cw f).ledDuty = s.ledDuty := rfl
@[simp] theorem State.endFailed_blinkActive (s : State) (cw : W64) (f : Failure) :
    (s.endFailed cw f).blinkActive = s.blinkActive := rfl
@[simp] theorem State.endFailed_blinkTimer (s : State) (cw : W64) (f : Failure) :
    (s.endFailed cw f).blinkTimer = s.blinkTimer := rfl
@[simp] theorem State.endFailed_subs (s : State) (cw : W64) (f : Failure) :
    (s.endFailed cw f).subs = s.subs := rfl
@[simp] theorem State.endFailed_evcnt (s : State) (cw : W64) (f : Failure) :
    (s.endFailed cw f).evcnt = s.evcnt := rfl
@[simp] theorem State.endFailed_i2cOpen (s : State) (cw : W64) (f : Failure) :
    (s.endFailed cw f).i2cOpen = s.i2cOpen := rfl
@[simp] theorem State.endFailed_frame (s : State) (cw : W64) (f : Failure) :
    (s.endFailed cw f).frame = s.frame := rfl
@[simp] theorem State.endFailed_stage (s : State) (cw : W64) (f : Failure) :
    (s.endFailed cw f).stage = s.stage := rfl
@[simp] theorem State.endFailed_trace (s : State) (cw : W64) (f : Failure) :
    (s.endFailed cw f).trace = s.trace := rfl
@[simp] theorem State.endFailed_usTune (s : State) (cw : W64) (f : Failure) :
    (s.endFailed cw f).usTune = s.usTune := rfl
@[simp] theorem State.endFailed_us (s : State) (cw : W64) (f : Failure) :
    (s.endFailed cw f).us = s.us := rfl
@[simp] theorem State.endFailed_trig (s : State) (cw : W64) (f : Failure) :
    (s.endFailed cw f).trig = s.trig := rfl

/-! ### `emit` -/

@[simp] theorem State.emit_cfg (s : State) (b : Fin 4) (k : EventKind) :
    (s.emit b k).cfg = s.cfg := rfl
@[simp] theorem State.emit_env (s : State) (b : Fin 4) (k : EventKind) :
    (s.emit b k).env = s.env := rfl
@[simp] theorem State.emit_cmdseq (s : State) (b : Fin 4) (k : EventKind) :
    (s.emit b k).cmdseq = s.cmdseq := rfl
@[simp] theorem State.emit_now (s : State) (b : Fin 4) (k : EventKind) :
    (s.emit b k).now = s.now := rfl
@[simp] theorem State.emit_err (s : State) (b : Fin 4) (k : EventKind) :
    (s.emit b k).err = s.err := rfl
@[simp] theorem State.emit_motors (s : State) (b : Fin 4) (k : EventKind) :
    (s.emit b k).motors = s.motors := rfl
@[simp] theorem State.emit_motorEn (s : State) (b : Fin 4) (k : EventKind) :
    (s.emit b k).motorEn = s.motorEn := rfl
@[simp] theorem State.emit_btnEn (s : State) (b : Fin 4) (k : EventKind) :
    (s.emit b k).btnEn = s.btnEn := rfl
@[simp] theorem State.emit_btnTune (s : State) (b : Fin 4) (k : EventKind) :
    (s.emit b k).btnTune = s.btnTune := rfl
@[simp] theorem State.emit_channels (s : State) (b : Fin 4) (k : EventKind) :
    (s.emit b k).channels = s.channels := rfl
@[simp] theorem State.emit_ledDuty (s : State) (b : Fin 4) (k : EventKind) :
    (s.emit b k).ledDuty = s.ledDuty := rfl
@[simp] theorem State.emit_blinkActive (s : State) (b : Fin 4) (k : EventKind) :
    (s.emit b k).blinkActive = s.blinkActive := rfl
@[simp] theorem State.emit_blinkTimer (s : State) (b : Fin 4) (k : EventKind) :
    (s.emit b k).blinkTimer = s.blinkTimer := rfl
@[simp] theorem State.emit_subs (s : State) (b : Fin 4) (k : EventKind) :
    (s.emit b k).subs = s.subs.map fun u => u.notify (eventBit b k) := rfl
@[simp] theorem State.emit_evcnt (s : State) (b : Fin 4) (k : EventKind) :
    (s.emit b k).evcnt = s.evcnt.set b ((s.evcnt.get b).bump k) := rfl
@[simp] theorem State.emit_i2cOpen (s : State) (b : Fin 4) (k : EventKind) :
    (s.emit b k).i2cOpen = s.i2cOpen := rfl
@[simp] theorem State.emit_frame (s : State) (b : Fin 4) (k : EventKind) :
    (s.emit b k).frame = s.frame := rfl
@[simp] theorem State.emit_stage (s : State) (b : Fin 4) (k : EventKind) :
    (s.emit b k).stage = s.stage := rfl
@[simp] theorem State.emit_trace (s : State) (b : Fin 4) (k : EventKind) :
    (s.emit b k).trace = s.trace := rfl
@[simp] theorem State.emit_usTune (s : State) (b : Fin 4) (k : EventKind) :
    (s.emit b k).usTune = s.usTune := rfl
@[simp] theorem State.emit_us (s : State) (b : Fin 4) (k : EventKind) :
    (s.emit b k).us = s.us := rfl
@[simp] theorem State.emit_trig (s : State) (b : Fin 4) (k : EventKind) :
    (s.emit b k).trig = s.trig := rfl

/-! ### `advanceNow` -/

@[simp] theorem State.advanceNow_cfg (s : State) : s.advanceNow.cfg = s.cfg := rfl
@[simp] theorem State.advanceNow_env (s : State) : s.advanceNow.env = s.env := rfl
@[simp] theorem State.advanceNow_cmdseq (s : State) : s.advanceNow.cmdseq = s.cmdseq := rfl
@[simp] theorem State.advanceNow_now (s : State) : s.advanceNow.now = s.now + 1 := rfl
@[simp] theorem State.advanceNow_err (s : State) : s.advanceNow.err = s.err := rfl
@[simp] theorem State.advanceNow_motors (s : State) : s.advanceNow.motors = s.motors := rfl
@[simp] theorem State.advanceNow_motorEn (s : State) : s.advanceNow.motorEn = s.motorEn := rfl
@[simp] theorem State.advanceNow_btnEn (s : State) : s.advanceNow.btnEn = s.btnEn := rfl
@[simp] theorem State.advanceNow_btnTune (s : State) : s.advanceNow.btnTune = s.btnTune := rfl
@[simp] theorem State.advanceNow_channels (s : State) : s.advanceNow.channels = s.channels := rfl
@[simp] theorem State.advanceNow_ledDuty (s : State) : s.advanceNow.ledDuty = s.ledDuty := rfl
@[simp] theorem State.advanceNow_blinkActive (s : State) :
    s.advanceNow.blinkActive = s.blinkActive := rfl
@[simp] theorem State.advanceNow_blinkTimer (s : State) :
    s.advanceNow.blinkTimer = s.blinkTimer := rfl
@[simp] theorem State.advanceNow_subs (s : State) : s.advanceNow.subs = s.subs := rfl
@[simp] theorem State.advanceNow_evcnt (s : State) : s.advanceNow.evcnt = s.evcnt := rfl
@[simp] theorem State.advanceNow_i2cOpen (s : State) : s.advanceNow.i2cOpen = s.i2cOpen := rfl
@[simp] theorem State.advanceNow_frame (s : State) : s.advanceNow.frame = s.frame := rfl
@[simp] theorem State.advanceNow_stage (s : State) : s.advanceNow.stage = s.stage := rfl
@[simp] theorem State.advanceNow_trace (s : State) : s.advanceNow.trace = s.trace := rfl
@[simp] theorem State.advanceNow_usTune (s : State) : s.advanceNow.usTune = s.usTune := rfl
@[simp] theorem State.advanceNow_us (s : State) : s.advanceNow.us = s.us := rfl
@[simp] theorem State.advanceNow_trig (s : State) : s.advanceNow.trig = s.trig := rfl

/-! ### `storeSpeed` -/

@[simp] theorem State.storeSpeed_cfg (s : State) (m : Fin 2) (c : Int) :
    (s.storeSpeed m c).cfg = s.cfg := rfl
@[simp] theorem State.storeSpeed_env (s : State) (m : Fin 2) (c : Int) :
    (s.storeSpeed m c).env = s.env := rfl
@[simp] theorem State.storeSpeed_cmdseq (s : State) (m : Fin 2) (c : Int) :
    (s.storeSpeed m c).cmdseq = s.cmdseq := rfl
@[simp] theorem State.storeSpeed_now (s : State) (m : Fin 2) (c : Int) :
    (s.storeSpeed m c).now = s.now := rfl
@[simp] theorem State.storeSpeed_err (s : State) (m : Fin 2) (c : Int) :
    (s.storeSpeed m c).err = s.err := rfl
@[simp] theorem State.storeSpeed_motors (s : State) (m : Fin 2) (c : Int) :
    (s.storeSpeed m c).motors = s.motors.set m { s.motors.get m with speed := BitVec.ofInt 16 c } := rfl
@[simp] theorem State.storeSpeed_motorEn (s : State) (m : Fin 2) (c : Int) :
    (s.storeSpeed m c).motorEn = s.motorEn := rfl
@[simp] theorem State.storeSpeed_btnEn (s : State) (m : Fin 2) (c : Int) :
    (s.storeSpeed m c).btnEn = s.btnEn := rfl
@[simp] theorem State.storeSpeed_btnTune (s : State) (m : Fin 2) (c : Int) :
    (s.storeSpeed m c).btnTune = s.btnTune := rfl
@[simp] theorem State.storeSpeed_channels (s : State) (m : Fin 2) (c : Int) :
    (s.storeSpeed m c).channels = s.channels := rfl
@[simp] theorem State.storeSpeed_ledDuty (s : State) (m : Fin 2) (c : Int) :
    (s.storeSpeed m c).ledDuty = s.ledDuty := rfl
@[simp] theorem State.storeSpeed_blinkActive (s : State) (m : Fin 2) (c : Int) :
    (s.storeSpeed m c).blinkActive = s.blinkActive := rfl
@[simp] theorem State.storeSpeed_blinkTimer (s : State) (m : Fin 2) (c : Int) :
    (s.storeSpeed m c).blinkTimer = s.blinkTimer := rfl
@[simp] theorem State.storeSpeed_subs (s : State) (m : Fin 2) (c : Int) :
    (s.storeSpeed m c).subs = s.subs := rfl
@[simp] theorem State.storeSpeed_evcnt (s : State) (m : Fin 2) (c : Int) :
    (s.storeSpeed m c).evcnt = s.evcnt := rfl
@[simp] theorem State.storeSpeed_i2cOpen (s : State) (m : Fin 2) (c : Int) :
    (s.storeSpeed m c).i2cOpen = s.i2cOpen := rfl
@[simp] theorem State.storeSpeed_frame (s : State) (m : Fin 2) (c : Int) :
    (s.storeSpeed m c).frame = s.frame := rfl
@[simp] theorem State.storeSpeed_stage (s : State) (m : Fin 2) (c : Int) :
    (s.storeSpeed m c).stage = s.stage := rfl
@[simp] theorem State.storeSpeed_trace (s : State) (m : Fin 2) (c : Int) :
    (s.storeSpeed m c).trace = s.trace := rfl
@[simp] theorem State.storeSpeed_usTune (s : State) (m : Fin 2) (c : Int) :
    (s.storeSpeed m c).usTune = s.usTune := rfl
@[simp] theorem State.storeSpeed_us (s : State) (m : Fin 2) (c : Int) :
    (s.storeSpeed m c).us = s.us := rfl
@[simp] theorem State.storeSpeed_trig (s : State) (m : Fin 2) (c : Int) :
    (s.storeSpeed m c).trig = s.trig := rfl

/-! ### `modifySlot` -/

@[simp] theorem State.modifySlot_cfg (s : State) (i : Nat) (f : Subscriber → Subscriber) :
    (s.modifySlot i f).cfg = s.cfg := rfl
@[simp] theorem State.modifySlot_env (s : State) (i : Nat) (f : Subscriber → Subscriber) :
    (s.modifySlot i f).env = s.env := rfl
@[simp] theorem State.modifySlot_cmdseq (s : State) (i : Nat) (f : Subscriber → Subscriber) :
    (s.modifySlot i f).cmdseq = s.cmdseq := rfl
@[simp] theorem State.modifySlot_now (s : State) (i : Nat) (f : Subscriber → Subscriber) :
    (s.modifySlot i f).now = s.now := rfl
@[simp] theorem State.modifySlot_err (s : State) (i : Nat) (f : Subscriber → Subscriber) :
    (s.modifySlot i f).err = s.err := rfl
@[simp] theorem State.modifySlot_motors (s : State) (i : Nat) (f : Subscriber → Subscriber) :
    (s.modifySlot i f).motors = s.motors := rfl
@[simp] theorem State.modifySlot_motorEn (s : State) (i : Nat) (f : Subscriber → Subscriber) :
    (s.modifySlot i f).motorEn = s.motorEn := rfl
@[simp] theorem State.modifySlot_btnEn (s : State) (i : Nat) (f : Subscriber → Subscriber) :
    (s.modifySlot i f).btnEn = s.btnEn := rfl
@[simp] theorem State.modifySlot_btnTune (s : State) (i : Nat) (f : Subscriber → Subscriber) :
    (s.modifySlot i f).btnTune = s.btnTune := rfl
@[simp] theorem State.modifySlot_channels (s : State) (i : Nat) (f : Subscriber → Subscriber) :
    (s.modifySlot i f).channels = s.channels := rfl
@[simp] theorem State.modifySlot_ledDuty (s : State) (i : Nat) (f : Subscriber → Subscriber) :
    (s.modifySlot i f).ledDuty = s.ledDuty := rfl
@[simp] theorem State.modifySlot_blinkActive (s : State) (i : Nat) (f : Subscriber → Subscriber) :
    (s.modifySlot i f).blinkActive = s.blinkActive := rfl
@[simp] theorem State.modifySlot_blinkTimer (s : State) (i : Nat) (f : Subscriber → Subscriber) :
    (s.modifySlot i f).blinkTimer = s.blinkTimer := rfl
@[simp] theorem State.modifySlot_subs (s : State) (i : Nat) (f : Subscriber → Subscriber) :
    (s.modifySlot i f).subs = s.subs.set i (f (s.slot i)) := rfl
@[simp] theorem State.modifySlot_evcnt (s : State) (i : Nat) (f : Subscriber → Subscriber) :
    (s.modifySlot i f).evcnt = s.evcnt := rfl
@[simp] theorem State.modifySlot_i2cOpen (s : State) (i : Nat) (f : Subscriber → Subscriber) :
    (s.modifySlot i f).i2cOpen = s.i2cOpen := rfl
@[simp] theorem State.modifySlot_frame (s : State) (i : Nat) (f : Subscriber → Subscriber) :
    (s.modifySlot i f).frame = s.frame := rfl
@[simp] theorem State.modifySlot_stage (s : State) (i : Nat) (f : Subscriber → Subscriber) :
    (s.modifySlot i f).stage = s.stage := rfl
@[simp] theorem State.modifySlot_trace (s : State) (i : Nat) (f : Subscriber → Subscriber) :
    (s.modifySlot i f).trace = s.trace := rfl
@[simp] theorem State.modifySlot_usTune (s : State) (i : Nat) (f : Subscriber → Subscriber) :
    (s.modifySlot i f).usTune = s.usTune := rfl
@[simp] theorem State.modifySlot_us (s : State) (i : Nat) (f : Subscriber → Subscriber) :
    (s.modifySlot i f).us = s.us := rfl
@[simp] theorem State.modifySlot_trig (s : State) (i : Nat) (f : Subscriber → Subscriber) :
    (s.modifySlot i f).trig = s.trig := rfl

/-! ### `buttonTeardown` -/

@[simp] theorem State.buttonTeardown_cfg (s : State) : s.buttonTeardown.cfg = s.cfg := rfl
@[simp] theorem State.buttonTeardown_env (s : State) : s.buttonTeardown.env = s.env := rfl
@[simp] theorem State.buttonTeardown_cmdseq (s : State) : s.buttonTeardown.cmdseq = s.cmdseq := rfl
@[simp] theorem State.buttonTeardown_now (s : State) : s.buttonTeardown.now = s.now := rfl
@[simp] theorem State.buttonTeardown_err (s : State) : s.buttonTeardown.err = s.err := rfl
@[simp] theorem State.buttonTeardown_motors (s : State) : s.buttonTeardown.motors = s.motors := rfl
@[simp] theorem State.buttonTeardown_motorEn (s : State) :
    s.buttonTeardown.motorEn = s.motorEn := rfl
@[simp] theorem State.buttonTeardown_btnEn (s : State) : s.buttonTeardown.btnEn = false := rfl
@[simp] theorem State.buttonTeardown_btnTune (s : State) :
    s.buttonTeardown.btnTune = s.btnTune := rfl
@[simp] theorem State.buttonTeardown_channels (s : State) :
    s.buttonTeardown.channels = s.channels.map teardownChannel := rfl
@[simp] theorem State.buttonTeardown_ledDuty (s : State) :
    s.buttonTeardown.ledDuty = s.ledDuty := rfl
@[simp] theorem State.buttonTeardown_blinkActive (s : State) :
    s.buttonTeardown.blinkActive = s.blinkActive := rfl
@[simp] theorem State.buttonTeardown_blinkTimer (s : State) :
    s.buttonTeardown.blinkTimer = s.blinkTimer := rfl
@[simp] theorem State.buttonTeardown_subs (s : State) : s.buttonTeardown.subs = s.subs := rfl
@[simp] theorem State.buttonTeardown_evcnt (s : State) : s.buttonTeardown.evcnt = s.evcnt := rfl
@[simp] theorem State.buttonTeardown_i2cOpen (s : State) :
    s.buttonTeardown.i2cOpen = s.i2cOpen := rfl
@[simp] theorem State.buttonTeardown_frame (s : State) : s.buttonTeardown.frame = s.frame := rfl
@[simp] theorem State.buttonTeardown_stage (s : State) : s.buttonTeardown.stage = s.stage := rfl
@[simp] theorem State.buttonTeardown_trace (s : State) : s.buttonTeardown.trace = s.trace := rfl
@[simp] theorem State.buttonTeardown_usTune (s : State) : s.buttonTeardown.usTune = s.usTune := rfl
@[simp] theorem State.buttonTeardown_us (s : State) : s.buttonTeardown.us = s.us := rfl
@[simp] theorem State.buttonTeardown_trig (s : State) : s.buttonTeardown.trig = s.trig := rfl

/-! ### `presentWord` -/

@[simp] theorem State.presentWord_cfg (s : State) (w : W64) : (s.presentWord w).cfg = s.cfg := rfl
@[simp] theorem State.presentWord_env (s : State) (w : W64) :
    (s.presentWord w).env = { s.env with pending := .command w :: s.env.pending } := rfl
@[simp] theorem State.presentWord_cmdseq (s : State) (w : W64) :
    (s.presentWord w).cmdseq = s.cmdseq := rfl
@[simp] theorem State.presentWord_now (s : State) (w : W64) : (s.presentWord w).now = s.now := rfl
@[simp] theorem State.presentWord_err (s : State) (w : W64) : (s.presentWord w).err = s.err := rfl
@[simp] theorem State.presentWord_motors (s : State) (w : W64) :
    (s.presentWord w).motors = s.motors := rfl
@[simp] theorem State.presentWord_motorEn (s : State) (w : W64) :
    (s.presentWord w).motorEn = s.motorEn := rfl
@[simp] theorem State.presentWord_btnEn (s : State) (w : W64) :
    (s.presentWord w).btnEn = s.btnEn := rfl
@[simp] theorem State.presentWord_btnTune (s : State) (w : W64) :
    (s.presentWord w).btnTune = s.btnTune := rfl
@[simp] theorem State.presentWord_channels (s : State) (w : W64) :
    (s.presentWord w).channels = s.channels := rfl
@[simp] theorem State.presentWord_ledDuty (s : State) (w : W64) :
    (s.presentWord w).ledDuty = s.ledDuty := rfl
@[simp] theorem State.presentWord_blinkActive (s : State) (w : W64) :
    (s.presentWord w).blinkActive = s.blinkActive := rfl
@[simp] theorem State.presentWord_blinkTimer (s : State) (w : W64) :
    (s.presentWord w).blinkTimer = s.blinkTimer := rfl
@[simp] theorem State.presentWord_subs (s : State) (w : W64) :
    (s.presentWord w).subs = s.subs := rfl
@[simp] theorem State.presentWord_evcnt (s : State) (w : W64) :
    (s.presentWord w).evcnt = s.evcnt := rfl
@[simp] theorem State.presentWord_i2cOpen (s : State) (w : W64) :
    (s.presentWord w).i2cOpen = s.i2cOpen := rfl
@[simp] theorem State.presentWord_frame (s : State) (w : W64) :
    (s.presentWord w).frame = s.frame := rfl
@[simp] theorem State.presentWord_stage (s : State) (w : W64) :
    (s.presentWord w).stage = s.stage := rfl
@[simp] theorem State.presentWord_trace (s : State) (w : W64) :
    (s.presentWord w).trace = s.trace := rfl
@[simp] theorem State.presentWord_usTune (s : State) (w : W64) :
    (s.presentWord w).usTune = s.usTune := rfl
@[simp] theorem State.presentWord_us (s : State) (w : W64) : (s.presentWord w).us = s.us := rfl
@[simp] theorem State.presentWord_trig (s : State) (w : W64) :
    (s.presentWord w).trig = s.trig := rfl

/-! ### `driveGpio` and `drivePwm` -/

@[simp] theorem State.driveGpio_cfg (s : State) (l : GpioLine) (v : Bool) :
    (s.driveGpio l v).cfg = s.cfg := by cases l <;> rfl
@[simp] theorem State.drivePwm_cfg (s : State) (c : PwmChannel) (d : W16) :
    (s.drivePwm c d).cfg = s.cfg := by cases c <;> rfl
@[simp] theorem State.driveGpio_env (s : State) (l : GpioLine) (v : Bool) :
    (s.driveGpio l v).env = s.env := by cases l <;> rfl
@[simp] theorem State.drivePwm_env (s : State) (c : PwmChannel) (d : W16) :
    (s.drivePwm c d).env = s.env := by cases c <;> rfl
@[simp] theorem State.driveGpio_cmdseq (s : State) (l : GpioLine) (v : Bool) :
    (s.driveGpio l v).cmdseq = s.cmdseq := by cases l <;> rfl
@[simp] theorem State.drivePwm_cmdseq (s : State) (c : PwmChannel) (d : W16) :
    (s.drivePwm c d).cmdseq = s.cmdseq := by cases c <;> rfl
@[simp] theorem State.driveGpio_now (s : State) (l : GpioLine) (v : Bool) :
    (s.driveGpio l v).now = s.now := by cases l <;> rfl
@[simp] theorem State.drivePwm_now (s : State) (c : PwmChannel) (d : W16) :
    (s.drivePwm c d).now = s.now := by cases c <;> rfl
@[simp] theorem State.driveGpio_err (s : State) (l : GpioLine) (v : Bool) :
    (s.driveGpio l v).err = s.err := by cases l <;> rfl
@[simp] theorem State.drivePwm_err (s : State) (c : PwmChannel) (d : W16) :
    (s.drivePwm c d).err = s.err := by cases c <;> rfl
@[simp] theorem State.driveGpio_motors (s : State) (l : GpioLine) (v : Bool) :
    (s.driveGpio l v).motors = s.motors := by cases l <;> rfl
@[simp] theorem State.drivePwm_motorEn (s : State) (c : PwmChannel) (d : W16) :
    (s.drivePwm c d).motorEn = s.motorEn := by cases c <;> rfl
@[simp] theorem State.driveGpio_btnEn (s : State) (l : GpioLine) (v : Bool) :
    (s.driveGpio l v).btnEn = s.btnEn := by cases l <;> rfl
@[simp] theorem State.drivePwm_btnEn (s : State) (c : PwmChannel) (d : W16) :
    (s.drivePwm c d).btnEn = s.btnEn := by cases c <;> rfl
@[simp] theorem State.driveGpio_btnTune (s : State) (l : GpioLine) (v : Bool) :
    (s.driveGpio l v).btnTune = s.btnTune := by cases l <;> rfl
@[simp] theorem State.drivePwm_btnTune (s : State) (c : PwmChannel) (d : W16) :
    (s.drivePwm c d).btnTune = s.btnTune := by cases c <;> rfl
@[simp] theorem State.driveGpio_channels (s : State) (l : GpioLine) (v : Bool) :
    (s.driveGpio l v).channels = s.channels := by cases l <;> rfl
@[simp] theorem State.drivePwm_channels (s : State) (c : PwmChannel) (d : W16) :
    (s.drivePwm c d).channels = s.channels := by cases c <;> rfl
@[simp] theorem State.driveGpio_ledDuty (s : State) (l : GpioLine) (v : Bool) :
    (s.driveGpio l v).ledDuty = s.ledDuty := by cases l <;> rfl
@[simp] theorem State.driveGpio_blinkActive (s : State) (l : GpioLine) (v : Bool) :
    (s.driveGpio l v).blinkActive = s.blinkActive := by cases l <;> rfl
@[simp] theorem State.drivePwm_blinkActive (s : State) (c : PwmChannel) (d : W16) :
    (s.drivePwm c d).blinkActive = s.blinkActive := by cases c <;> rfl
@[simp] theorem State.driveGpio_blinkTimer (s : State) (l : GpioLine) (v : Bool) :
    (s.driveGpio l v).blinkTimer = s.blinkTimer := by cases l <;> rfl
@[simp] theorem State.drivePwm_blinkTimer (s : State) (c : PwmChannel) (d : W16) :
    (s.drivePwm c d).blinkTimer = s.blinkTimer := by cases c <;> rfl
@[simp] theorem State.driveGpio_subs (s : State) (l : GpioLine) (v : Bool) :
    (s.driveGpio l v).subs = s.subs := by cases l <;> rfl
@[simp] theorem State.drivePwm_subs (s : State) (c : PwmChannel) (d : W16) :
    (s.drivePwm c d).subs = s.subs := by cases c <;> rfl
@[simp] theorem State.driveGpio_evcnt (s : State) (l : GpioLine) (v : Bool) :
    (s.driveGpio l v).evcnt = s.evcnt := by cases l <;> rfl
@[simp] theorem State.drivePwm_evcnt (s : State) (c : PwmChannel) (d : W16) :
    (s.drivePwm c d).evcnt = s.evcnt := by cases c <;> rfl
@[simp] theorem State.driveGpio_i2cOpen (s : State) (l : GpioLine) (v : Bool) :
    (s.driveGpio l v).i2cOpen = s.i2cOpen := by cases l <;> rfl
@[simp] theorem State.drivePwm_i2cOpen (s : State) (c : PwmChannel) (d : W16) :
    (s.drivePwm c d).i2cOpen = s.i2cOpen := by cases c <;> rfl
@[simp] theorem State.driveGpio_frame (s : State) (l : GpioLine) (v : Bool) :
    (s.driveGpio l v).frame = s.frame := by cases l <;> rfl
@[simp] theorem State.drivePwm_frame (s : State) (c : PwmChannel) (d : W16) :
    (s.drivePwm c d).frame = s.frame := by cases c <;> rfl
@[simp] theorem State.driveGpio_stage (s : State) (l : GpioLine) (v : Bool) :
    (s.driveGpio l v).stage = s.stage := by cases l <;> rfl
@[simp] theorem State.drivePwm_stage (s : State) (c : PwmChannel) (d : W16) :
    (s.drivePwm c d).stage = s.stage := by cases c <;> rfl
@[simp] theorem State.driveGpio_trace (s : State) (l : GpioLine) (v : Bool) :
    (s.driveGpio l v).trace = s.trace := by cases l <;> rfl
@[simp] theorem State.drivePwm_trace (s : State) (c : PwmChannel) (d : W16) :
    (s.drivePwm c d).trace = s.trace := by cases c <;> rfl
@[simp] theorem State.driveGpio_usTune (s : State) (l : GpioLine) (v : Bool) :
    (s.driveGpio l v).usTune = s.usTune := by cases l <;> rfl
@[simp] theorem State.drivePwm_usTune (s : State) (c : PwmChannel) (d : W16) :
    (s.drivePwm c d).usTune = s.usTune := by cases c <;> rfl
@[simp] theorem State.driveGpio_us (s : State) (l : GpioLine) (v : Bool) :
    (s.driveGpio l v).us = s.us := by cases l <;> rfl
@[simp] theorem State.drivePwm_us (s : State) (c : PwmChannel) (d : W16) :
    (s.drivePwm c d).us = s.us := by cases c <;> rfl
@[simp] theorem State.drivePwm_trig (s : State) (c : PwmChannel) (d : W16) :
    (s.drivePwm c d).trig = s.trig := by cases c <;> rfl

end Sys2Proof.Machine
end

