-- ==== Sys2Proof/Laws/Leaf.lean ====
section
/-! SUPPORT. What a leaf operation can do (00_scope.md R9, 60_exceptions.md R331): the state it
leaves, its answer, and the fields it never touches. -/

namespace Sys2Proof.Machine

/-- The state after a leaf operation, whatever the answer, but for the count of answers. -/
def State.driveLeaf (s : State) (op : LeafOp) : State :=
  match op with
  | .pwmSet ch d => s.drivePwm ch d
  | .gpioWrite line v => s.driveGpio line v
  | .i2cWrite bytes => { s with trace := s.trace ++ [⟨s.cfg.i2cAddr, bytes, s.answerAt s.env.asked⟩] }

/-- Whether a leaf operation is asked of the environment. -/
def LeafOp.asks (op : LeafOp) (cfg : Config) : Bool :=
  match op with
  | .pwmSet _ _ => cfg.leafCanFail
  | .gpioWrite _ _ => cfg.leafCanFail
  | .i2cWrite _ => true

/-- Everything a leaf operation can do. -/
theorem State.leaf_eq (s : State) (op : LeafOp) :
    s.leaf op = if op.asks s.cfg then ((s.driveLeaf op).countAsked, s.answerAt s.env.asked)
      else (s.driveLeaf op, .ok) := by
  cases op with
  | pwmSet ch d => rfl
  | gpioWrite l v => rfl
  | i2cWrite b => rfl

/-! The fields no leaf operation touches. -/

@[simp] theorem State.leaf_cfg (s : State) (op : LeafOp) : (s.leaf op).1.cfg = s.cfg := by
  cases op <;> simp only [State.leaf] <;> (try split) <;> simp
@[simp] theorem State.leaf_cmdseq (s : State) (op : LeafOp) : (s.leaf op).1.cmdseq = s.cmdseq := by
  cases op <;> simp only [State.leaf] <;> (try split) <;> simp
@[simp] theorem State.leaf_now (s : State) (op : LeafOp) : (s.leaf op).1.now = s.now := by
  cases op <;> simp only [State.leaf] <;> (try split) <;> simp
@[simp] theorem State.leaf_err (s : State) (op : LeafOp) : (s.leaf op).1.err = s.err := by
  cases op <;> simp only [State.leaf] <;> (try split) <;> simp
@[simp] theorem State.leaf_btnEn (s : State) (op : LeafOp) : (s.leaf op).1.btnEn = s.btnEn := by
  cases op <;> simp only [State.leaf] <;> (try split) <;> simp
@[simp] theorem State.leaf_btnTune (s : State) (op : LeafOp) : (s.leaf op).1.btnTune = s.btnTune := by
  cases op <;> simp only [State.leaf] <;> (try split) <;> simp
@[simp] theorem State.leaf_channels (s : State) (op : LeafOp) : (s.leaf op).1.channels = s.channels := by
  cases op <;> simp only [State.leaf] <;> (try split) <;> simp
@[simp] theorem State.leaf_blinkActive (s : State) (op : LeafOp) : (s.leaf op).1.blinkActive = s.blinkActive := by
  cases op <;> simp only [State.leaf] <;> (try split) <;> simp
@[simp] theorem State.leaf_blinkTimer (s : State) (op : LeafOp) : (s.leaf op).1.blinkTimer = s.blinkTimer := by
  cases op <;> simp only [State.leaf] <;> (try split) <;> simp
@[simp] theorem State.leaf_subs (s : State) (op : LeafOp) : (s.leaf op).1.subs = s.subs := by
  cases op <;> simp only [State.leaf] <;> (try split) <;> simp
@[simp] theorem State.leaf_evcnt (s : State) (op : LeafOp) : (s.leaf op).1.evcnt = s.evcnt := by
  cases op <;> simp only [State.leaf] <;> (try split) <;> simp
@[simp] theorem State.leaf_i2cOpen (s : State) (op : LeafOp) : (s.leaf op).1.i2cOpen = s.i2cOpen := by
  cases op <;> simp only [State.leaf] <;> (try split) <;> simp
@[simp] theorem State.leaf_frame (s : State) (op : LeafOp) : (s.leaf op).1.frame = s.frame := by
  cases op <;> simp only [State.leaf] <;> (try split) <;> simp
@[simp] theorem State.leaf_stage (s : State) (op : LeafOp) : (s.leaf op).1.stage = s.stage := by
  cases op <;> simp only [State.leaf] <;> (try split) <;> simp
@[simp] theorem State.leaf_usTune (s : State) (op : LeafOp) : (s.leaf op).1.usTune = s.usTune := by
  cases op <;> simp only [State.leaf] <;> (try split) <;> simp
@[simp] theorem State.leaf_us (s : State) (op : LeafOp) : (s.leaf op).1.us = s.us := by
  cases op <;> simp only [State.leaf] <;> (try split) <;> simp

@[simp] theorem State.leaf_pending (s : State) (op : LeafOp) :
    (s.leaf op).1.env.pending = s.env.pending := by
  cases op <;> simp only [State.leaf] <;> (try split) <;> simp

@[simp] theorem State.leaf_drawn (s : State) (op : LeafOp) :
    (s.leaf op).1.env.drawn = s.env.drawn := by
  cases op <;> simp only [State.leaf] <;> (try split) <;> simp

@[simp] theorem State.leaf_answers (s : State) (op : LeafOp) :
    (s.leaf op).1.env.answers = s.env.answers := by
  cases op <;> simp only [State.leaf] <;> (try split) <;> simp

@[simp] theorem State.leaf_responses (s : State) (op : LeafOp) :
    (s.leaf op).1.env.responses = s.env.responses := by
  cases op <;> simp only [State.leaf] <;> (try split) <;> simp

/-! ### Leaf operations that succeed -/

theorem State.answerAt_congr {s t : State} (h : t.env.answers = s.env.answers) (n : Nat) :
    t.answerAt n = s.answerAt n := by simp [State.answerAt, h]

theorem State.LeavesOk.mono {s : State} {n m : Nat} (h : s.LeavesOk n) (hm : m ≤ n) :
    s.LeavesOk m := fun hc k hk => h hc k (lt_of_lt_of_le hk hm)

theorem State.AnswersOk.mono {s : State} {n m : Nat} (h : s.AnswersOk n) (hm : m ≤ n) :
    s.AnswersOk m := fun k hk => h k (lt_of_lt_of_le hk hm)

/-- A PWM write that succeeds. -/
theorem State.leaf_pwm_ok (s : State) (ch : PwmChannel) (d : W16) (h : s.LeavesOk 1) :
    s.leaf (.pwmSet ch d) = ((s.drivePwm ch d).leavesMade 1, .ok) := by
  by_cases hc : s.cfg.leafCanFail = true
  · have := h hc 0 (by omega)
    simp only [Nat.add_zero] at this
    simp [State.leaf, hc, this, State.leavesMade, State.countAsked]
  · simp only [Bool.not_eq_true] at hc
    simp [State.leaf, hc, State.leavesMade]
    cases ch <;> rfl

/-- A GPIO write that succeeds. -/
theorem State.leaf_gpio_ok (s : State) (l : GpioLine) (v : Bool) (h : s.LeavesOk 1) :
    s.leaf (.gpioWrite l v) = ((s.driveGpio l v).leavesMade 1, .ok) := by
  by_cases hc : s.cfg.leafCanFail = true
  · have := h hc 0 (by omega)
    simp only [Nat.add_zero] at this
    simp [State.leaf, hc, this, State.leavesMade, State.countAsked]
  · simp only [Bool.not_eq_true] at hc
    simp [State.leaf, hc, State.leavesMade]
    cases l <;> rfl

/-- A bus write that succeeds. -/
theorem State.leaf_i2c_ok (s : State) (b : List Byte) (h : s.AnswersOk 1) :
    s.leaf (.i2cWrite b) = (s.busMade [b], .ok) := by
  have := h 0 (by omega)
  simp only [Nat.add_zero] at this
  simp [State.leaf, this, State.busMade, State.countAsked, busEntry]

/-- The answers left after the first. -/
theorem State.LeavesOk.next {s t : State} {n : Nat} (h : s.LeavesOk (n + 1))
    (hc : t.cfg = s.cfg) (ha : t.env.answers = s.env.answers)
    (hk : t.env.asked = s.env.asked + if s.cfg.leafCanFail then 1 else 0) : t.LeavesOk n := by
  intro hf k hn
  rw [hc] at hf
  rw [State.answerAt_congr ha, hk, if_pos hf]
  have := h hf (k + 1) (by omega)
  rwa [show s.env.asked + (k + 1) = s.env.asked + 1 + k by omega] at this

/-- The answers left after the first. -/
theorem State.AnswersOk.next {s t : State} {n : Nat} (h : s.AnswersOk (n + 1))
    (ha : t.env.answers = s.env.answers) (hk : t.env.asked = s.env.asked + 1) : t.AnswersOk n := by
  intro k hn
  rw [State.answerAt_congr ha, hk]
  have := h (k + 1) (by omega)
  rwa [show s.env.asked + (k + 1) = s.env.asked + 1 + k by omega] at this

theorem State.leavesMade_leavesMade (s : State) (n m : Nat) :
    (s.leavesMade n).leavesMade m = s.leavesMade (n + m) := by
  by_cases h : s.cfg.leafCanFail = true <;> simp [State.leavesMade, h, Nat.add_assoc]

theorem State.busMade_busMade (s : State) (v w : List (List Byte)) :
    (s.busMade v).busMade w = s.busMade (v ++ w) := by
  simp [State.busMade, List.append_assoc, Nat.add_assoc]

end Sys2Proof.Machine
end

