-- ==== Sys2Proof/Laws/Memory.lean ====
section
/-! SUPPORT. Memory: what a read sees after a write, and the canonical form is kept. -/

namespace Sys2Proof.Machine

theorem Memory.read_filter_ne (m : Memory) (a b : Nat) :
    Memory.read (m.filter fun c => c.1 ≠ a) b = if b = a then unlistedByte else m.read b := by
  induction m with
  | nil => simp [Memory.read]
  | cons c rest ih =>
    by_cases hc : c.1 = a
    · rw [List.filter_cons_of_neg (by simpa using hc), ih]
      by_cases hb : b = a
      · simp [hb]
      · have hne : ¬ c.1 = b := fun h => hb (by rw [← h, hc])
        simp [hb, Memory.read, hne]
    · rw [List.filter_cons_of_pos (by simpa using hc)]
      by_cases hcb : c.1 = b
      · have hb : ¬ b = a := fun h => hc (hcb.trans h)
        simp [Memory.read, hcb, hb]
      · simp only [Memory.read, if_neg hcb]
        exact ih

theorem Memory.read_insertCell (m : Memory) (c : Host.Cell) (b : Nat)
    (h : ∀ d ∈ m, d.1 ≠ c.1) :
    (m.insertCell c).read b = if b = c.1 then c.2 else m.read b := by
  induction m with
  | nil =>
    by_cases hb : b = c.1
    · simp [Memory.insertCell, Memory.read, hb]
    · have : ¬ c.1 = b := fun e => hb e.symm
      simp [Memory.insertCell, Memory.read, hb, this]
  | cons d rest ih =>
    have ih := ih fun x hx => h x (List.mem_cons_of_mem _ hx)
    have hd : d.1 ≠ c.1 := h d List.mem_cons_self
    unfold Memory.insertCell
    split
    · by_cases hb : b = c.1
      · simp [Memory.read, hb]
      · have : ¬ c.1 = b := fun e => hb e.symm
        simp [Memory.read, hb, this]
    · by_cases hdb : d.1 = b
      · have hb : ¬ b = c.1 := fun e => hd (hdb.trans e)
        simp [Memory.read, hdb, hb]
      · simp [Memory.read, hdb, ih]

/-- A read after a write: the byte written at its address, the byte of before anywhere else. -/
theorem Memory.read_write (m : Memory) (a b : Nat) (v : Byte) :
    (m.write a v).read b = if b = a then v else m.read b := by
  unfold Memory.write
  by_cases hv : v = unlistedByte
  · simp only [hv, if_true]
    exact Memory.read_filter_ne m a b
  · simp only [hv, if_false]
    rw [Memory.read_insertCell _ _ _ (by simp), Memory.read_filter_ne]
    by_cases hb : b = a <;> simp [hb]

@[simp] theorem Memory.read_write_same (m : Memory) (a : Nat) (v : Byte) :
    (m.write a v).read a = v := by simp [Memory.read_write]

theorem Memory.read_write_ne (m : Memory) {a b : Nat} (v : Byte) (h : b ≠ a) :
    (m.write a v).read b = m.read b := by simp [Memory.read_write, h]

theorem Memory.mem_insertCell (m : Memory) (c x : Host.Cell) :
    x ∈ m.insertCell c ↔ x = c ∨ x ∈ m := by
  induction m with
  | nil => simp [Memory.insertCell]
  | cons d rest ih =>
    unfold Memory.insertCell
    split
    · simp
    · simp only [List.mem_cons, ih]
      tauto

theorem Memory.insertCell_sorted (m : Memory) (c : Host.Cell)
    (hs : m.Pairwise fun x y => x.1 < y.1) (hne : ∀ d ∈ m, d.1 ≠ c.1) :
    (m.insertCell c).Pairwise fun x y => x.1 < y.1 := by
  induction m with
  | nil => simp [Memory.insertCell]
  | cons d rest ih =>
    have hd := List.pairwise_cons.mp hs
    unfold Memory.insertCell
    split
    · rename_i hlt
      refine List.pairwise_cons.mpr ⟨fun x hx => ?_, hs⟩
      rcases List.mem_cons.mp hx with rfl | hx
      · exact hlt
      · exact lt_trans hlt (hd.1 x hx)
    · rename_i hge
      have hne' : ∀ x ∈ rest, x.1 ≠ c.1 := fun x hx => hne x (List.mem_cons_of_mem _ hx)
      refine List.pairwise_cons.mpr ⟨fun x hx => ?_, ih hd.2 hne'⟩
      rcases (Memory.mem_insertCell rest c x).mp hx with rfl | hx
      · exact lt_of_le_of_ne (not_lt.mp hge) (hne d List.mem_cons_self)
      · exact hd.1 x hx

/-- A write inside the memory keeps the canonical form. -/
theorem Memory.write_wf {size : Nat} {m : Memory} (h : m.Wf size) {a : Nat} (ha : a < size)
    (v : Byte) : (m.write a v).Wf size := by
  have hs : (m.filter fun c => c.1 ≠ a).Pairwise fun x y => x.1 < y.1 := h.1.filter _
  have hc : ∀ c ∈ m.filter (fun c => c.1 ≠ a), c.1 < size ∧ c.2 ≠ unlistedByte :=
    fun c hc => h.2 c (List.mem_of_mem_filter hc)
  unfold Memory.write
  by_cases hv : v = unlistedByte
  · simp only [hv, if_true]
    exact ⟨hs, hc⟩
  · simp only [hv, if_false]
    refine ⟨Memory.insertCell_sorted _ _ hs (by simp), fun x hx => ?_⟩
    rcases (Memory.mem_insertCell _ _ _).mp hx with rfl | hx
    · exact ⟨ha, hv⟩
    · exact hc x hx

theorem Memory.nil_wf (size : Nat) : Memory.Wf size [] := by simp [Memory.Wf]

/-- What `MemWrite` can do: change FRAME or STAGE inside its bounds, or nothing. -/
theorem State.memWrite_cases (s : State) (sp : Space) (i : Nat) (v : Byte) :
    (sp = .frame ∧ i < 18 ∧ s.memWrite sp i v = { s with frame := s.frame.write i v }) ∨
    (sp = .stage ∧ i < s.cfg.stageSize ∧ s.memWrite sp i v = { s with stage := s.stage.write i v }) ∨
    s.memWrite sp i v = s := by
  cases sp with
  | frame =>
    by_cases h : i < 18
    · exact .inl ⟨rfl, h, by simp [State.memWrite, nChannel, h]⟩
    · exact .inr (.inr (by simp [State.memWrite, nChannel, h]))
  | stage =>
    by_cases h : i < s.cfg.stageSize
    · exact .inr (.inl ⟨rfl, h, by simp [State.memWrite, h]⟩)
    · exact .inr (.inr (by simp [State.memWrite, h]))
  | gamma => exact .inr (.inr rfl)

/-- A write of FRAME inside its bounds. -/
theorem State.memWrite_frame (s : State) {i : Nat} (v : Byte) (h : i < 18) :
    s.memWrite .frame i v = { s with frame := s.frame.write i v } := by
  simp [State.memWrite, nChannel, h]

/-- A write of STAGE inside its bounds. -/
theorem State.memWrite_stage (s : State) {i : Nat} (v : Byte) (h : i < s.cfg.stageSize) :
    s.memWrite .stage i v = { s with stage := s.stage.write i v } := by
  simp [State.memWrite, h]

end Sys2Proof.Machine
end

