-- ==== Sys2Proof/Laws/Run.lean ====
section
/-! SUPPORT. A command under way: what each operation does to a run that has not failed, and that a
failed run is left as it is (00_scope.md R9). -/

namespace Sys2Proof.Machine

variable {s s' : State} {k : Nat} {v : W32} {f : Failure}

@[simp] theorem Run.start_state (s : State) : (Run.start s).state = s := rfl

theorem Run.start_eq (s : State) : Run.start s = ⟨s, 0, none, 0⟩ := rfl

@[simp] theorem Run.andThen_none (s : State) (k : Nat) (v : W32) (g : Run → Run) :
    Run.andThen ⟨s, k, none, v⟩ g = g ⟨s, k, none, v⟩ := rfl

@[simp] theorem Run.andThen_some (s : State) (k : Nat) (f : Failure) (v : W32) (g : Run → Run) :
    Run.andThen ⟨s, k, some f, v⟩ g = ⟨s, k, some f, v⟩ := rfl

theorem Run.andThen_failed {r : Run} (h : r.failure ≠ none) (g : Run → Run) : r.andThen g = r := by
  unfold Run.andThen
  split
  · contradiction
  · rfl

@[simp] theorem Run.write_none (s : State) (k : Nat) (v : W32) (g : State → State) :
    Run.write ⟨s, k, none, v⟩ g = ⟨g s, k, none, v⟩ := rfl

@[simp] theorem Run.write_some (s : State) (k : Nat) (f : Failure) (v : W32) (g : State → State) :
    Run.write ⟨s, k, some f, v⟩ g = ⟨s, k, some f, v⟩ := rfl

@[simp] theorem Run.raise_none (s : State) (k : Nat) (v : W32) (f : Failure) :
    Run.raise ⟨s, k, none, v⟩ f = ⟨s, k, some f, v⟩ := rfl

@[simp] theorem Run.raise_some (s : State) (k : Nat) (f g : Failure) (v : W32) :
    Run.raise ⟨s, k, some f, v⟩ g = ⟨s, k, some f, v⟩ := rfl

@[simp] theorem Run.raiseIf_true (r : Run) (f : Failure) : r.raiseIf true f = r.raise f := rfl

@[simp] theorem Run.raiseIf_false (r : Run) (f : Failure) : r.raiseIf false f = r := rfl

@[simp] theorem Run.answer_none (s : State) (k : Nat) (v : W32) (g : State → W32) :
    Run.answer ⟨s, k, none, v⟩ g = ⟨s, k, none, g s⟩ := rfl

@[simp] theorem Run.answer_some (s : State) (k : Nat) (f : Failure) (v : W32) (g : State → W32) :
    Run.answer ⟨s, k, some f, v⟩ g = ⟨s, k, some f, v⟩ := rfl

@[simp] theorem Run.engine_none (s : State) (k : Nat) (v : W32) (g : Engine → Engine) :
    Run.engine ⟨s, k, none, v⟩ g = ⟨{ s with us := g s.us }, k, none, v⟩ := rfl

@[simp] theorem Run.leaf_some (s : State) (k : Nat) (f : Failure) (v : W32) (op : LeafOp) :
    Run.leaf ⟨s, k, some f, v⟩ op = ⟨s, k, some f, v⟩ := rfl

@[simp] theorem Run.leaves_nil (r : Run) : r.leaves [] = r := rfl

@[simp] theorem Run.leaves_cons (r : Run) (op : LeafOp) (ops : List LeafOp) :
    r.leaves (op :: ops) = (r.leaf op).leaves ops := rfl

theorem Run.leaf_ok {op : LeafOp} (h : s.leaf op = (s', .ok)) :
    Run.leaf ⟨s, k, none, v⟩ op = ⟨s', k + 1, none, v⟩ := by
  simp [Run.leaf, h]

theorem Run.leaf_fail {op : LeafOp} (h : s.leaf op = (s', .fail)) :
    Run.leaf ⟨s, k, none, v⟩ op =
      ⟨s', k, some ⟨.transportFailure, BitVec.ofNat 32 k⟩, v⟩ := by
  simp [Run.leaf, h]

/-- Everything a leaf operation of a run can do. -/
theorem Run.leaf_cases (r : Run) (op : LeafOp) :
    (r.failure ≠ none ∧ r.leaf op = r) ∨
    (r.failure = none ∧ (r.state.leaf op).2 = .ok ∧
      r.leaf op = { r with state := (r.state.leaf op).1, leafNo := r.leafNo + 1 }) ∨
    (r.failure = none ∧ (r.state.leaf op).2 = .fail ∧
      r.leaf op = { r with state := (r.state.leaf op).1,
                           failure := some ⟨.transportFailure, BitVec.ofNat 32 r.leafNo⟩ }) := by
  obtain ⟨s, k, f, v⟩ := r
  cases f with
  | some f => exact .inl ⟨by simp, rfl⟩
  | none =>
    cases h : s.leaf op with
    | mk s' a =>
      cases a with
      | ok => exact .inr (.inl ⟨rfl, by simp, by simp [Run.leaf, h]⟩)
      | fail => exact .inr (.inr ⟨rfl, by simp, by simp [Run.leaf, h]⟩)

/-- What leaf operations keep of the state, a run's leaf keeps. -/
theorem Run.leaf_keeps {P : State → Prop} (hP : ∀ s op, P s → P (s.leaf op).1) (r : Run)
    (op : LeafOp) (h : P r.state) : P (r.leaf op).state := by
  rcases r.leaf_cases op with ⟨_, e⟩ | ⟨_, _, e⟩ | ⟨_, _, e⟩ <;> rw [e]
  · exact h
  · exact hP _ _ h
  · exact hP _ _ h

/-- What leaf operations keep of the state, a list of them keeps. -/
theorem Run.leaves_keeps {P : State → Prop} (hP : ∀ s op, P s → P (s.leaf op).1)
    (ops : List LeafOp) (r : Run) (h : P r.state) : P (r.leaves ops).state := by
  induction ops generalizing r with
  | nil => exact h
  | cons op ops ih => exact ih _ (Run.leaf_keeps hP r op h)

/-- What a state change keeps, the write of it in a run keeps. -/
theorem Run.write_keeps {P : State → Prop} (r : Run) (g : State → State)
    (hg : P r.state → P (g r.state)) (h : P r.state) : P (r.write g).state := by
  obtain ⟨s, k, f, v⟩ := r
  cases f with
  | some f => exact h
  | none => exact hg h

/-- The four steps that only raise or set the value leave the state alone. -/
@[simp] theorem Run.raise_state (r : Run) (f : Failure) : (r.raise f).state = r.state := by
  obtain ⟨s, k, g, v⟩ := r
  cases g <;> rfl

@[simp] theorem Run.raiseIf_state (r : Run) (c : Bool) (f : Failure) :
    (r.raiseIf c f).state = r.state := by
  cases c <;> simp

@[simp] theorem Run.answer_state (r : Run) (g : State → W32) : (r.answer g).state = r.state := by
  obtain ⟨s, k, f, v⟩ := r
  cases f <;> rfl

theorem Run.engine_keeps {P : State → Prop} (r : Run) (g : Engine → Engine)
    (hg : P r.state → P { r.state with us := g r.state.us }) (h : P r.state) :
    P (r.engine g).state := Run.write_keeps r _ hg h

/-! ### Leaf operations that succeed -/

theorem Run.pwm_ok (ch : PwmChannel) (d : W16) (h : s.LeavesOk 1) :
    Run.leaf ⟨s, k, none, v⟩ (.pwmSet ch d) = ⟨(s.drivePwm ch d).leavesMade 1, k + 1, none, v⟩ :=
  Run.leaf_ok (s.leaf_pwm_ok ch d h)

theorem Run.gpio_ok (l : GpioLine) (b : Bool) (h : s.LeavesOk 1) :
    Run.leaf ⟨s, k, none, v⟩ (.gpioWrite l b) =
      ⟨(s.driveGpio l b).leavesMade 1, k + 1, none, v⟩ :=
  Run.leaf_ok (s.leaf_gpio_ok l b h)

theorem Run.i2c_ok (b : List Byte) (h : s.AnswersOk 1) :
    Run.i2c ⟨s, k, none, v⟩ b = ⟨s.busMade [b], k + 1, none, v⟩ :=
  Run.leaf_ok (s.leaf_i2c_ok b h)

/-! ### How a command ends -/

theorem State.endOk_eq (s : State) (v : W32) : s.endOk v = s.afterOk v := rfl

theorem State.endFailed_eq (s : State) (cw : W64) (e : Status) (info : W32) :
    s.endFailed cw ⟨e, info⟩ = s.afterError cw e info := by
  unfold State.endFailed State.afterError State.recordError State.respond State.countCommand
  congr 2
  cases e <;> simp

@[simp] theorem Run.retire_none (s : State) (k : Nat) (v : W32) (cw : W64) :
    Run.retire ⟨s, k, none, v⟩ cw = s.afterOk v := rfl

@[simp] theorem Run.retire_some (s : State) (k : Nat) (f : Failure) (v : W32) (cw : W64) :
    Run.retire ⟨s, k, some f, v⟩ cw = s.afterError cw f.status f.info :=
  s.endFailed_eq cw f.status f.info

/-- Everything the end of a command can do. -/
theorem Run.retire_cases (r : Run) (cw : W64) :
    (r.failure = none ∧ r.retire cw = r.state.afterOk r.value) ∨
    (∃ f, r.failure = some f ∧ r.retire cw = r.state.afterError cw f.status f.info) := by
  obtain ⟨s, k, f, v⟩ := r
  cases f with
  | none => exact .inl ⟨rfl, rfl⟩
  | some f => exact .inr ⟨f, rfl, Run.retire_some s k f v cw⟩

/-! ### Admission -/

@[simp] theorem firstFailure_nil (s : State) : firstFailure [] s = none := rfl

theorem firstFailure_cons_none {c : Check} {rest : List Check} (h : c s = none) :
    firstFailure (c :: rest) s = firstFailure rest s := by simp [firstFailure, h]

theorem firstFailure_cons_some {c : Check} {rest : List Check} (h : c s = some f) :
    firstFailure (c :: rest) s = some f := by simp [firstFailure, h]

theorem notFatal_none (h : s.err.fatal = false) : notFatal s = none := by simp [notFatal, h]
theorem notFatal_some (h : s.err.fatal = true) : notFatal s = some ⟨.fatal, 0⟩ := by
  simp [notFatal, h]
theorem busOpen_none (h : s.i2cOpen = true) : busOpen s = none := by simp [busOpen, h]
theorem busOpen_some (h : s.i2cOpen = false) : busOpen s = some ⟨.notOpen, 0⟩ := by
  simp [busOpen, h]
theorem busClosed_none (h : s.i2cOpen = false) : busClosed s = none := by simp [busClosed, h]
theorem busClosed_some (h : s.i2cOpen = true) : busClosed s = some ⟨.alreadyOpen, 0⟩ := by
  simp [busClosed, h]
theorem engineIdle_none (h : s.us.st = .idle) : engineIdle s = none := by
  simp [engineIdle, State.usBusy, h]
theorem engineIdle_some (h : s.us.st ≠ .idle) :
    engineIdle s = some ⟨.busy, zext32 s.us.st.code⟩ := by
  simp [engineIdle, State.usBusy, h]
theorem resultWaiting_none (h : s.us.done = true) : resultWaiting s = none := by
  simp [resultWaiting, h]
theorem resultWaiting_some (h : s.us.done = false) : resultWaiting s = some ⟨.noResult, 0⟩ := by
  simp [resultWaiting, h]

/-- A command whose checks all pass runs its pseudocode. -/
theorem command_admitted {i : Instr} {checks : List Check} {body : Run → Run}
    (h : firstFailure checks s = none) :
    command i checks body s = .next ((body ⟨s, 0, none, 0⟩).retire (encode i)) := by
  simp [command, h, Run.start]

/-- A command whose checks fail ends with the first failure and does nothing else. -/
theorem command_refused {i : Instr} {checks : List Check} {body : Run → Run}
    (h : firstFailure checks s = some f) :
    command i checks body s = .next (s.afterError (encode i) f.status f.info) := by
  simp only [command, h]
  rw [← State.endFailed_eq]

/-- Everything a command can do. -/
theorem command_cases (i : Instr) (checks : List Check) (body : Run → Run) (s : State) :
    (∃ f, firstFailure checks s = some f ∧
      command i checks body s = .next (s.afterError (encode i) f.status f.info)) ∨
    (firstFailure checks s = none ∧
      command i checks body s = .next ((body (Run.start s)).retire (encode i))) := by
  cases h : firstFailure checks s with
  | none => exact .inr ⟨rfl, command_admitted h⟩
  | some f => exact .inl ⟨f, rfl, command_refused h⟩

/-- What the recording of a command's end, its state changes and its leaf operations keep, the
command keeps. -/
theorem command_keeps {P : State → Prop} {i : Instr} {checks : List Check} {body : Run → Run}
    (hok : ∀ s v, P s → P (s.afterOk v))
    (herr : ∀ s e info, P s → P (s.afterError (encode i) e info))
    (hbody : P (body (Run.start s)).state) (h : P s) {t : State}
    (ht : command i checks body s = .next t) : P t := by
  rcases command_cases i checks body s with ⟨f, _, e⟩ | ⟨_, e⟩
  · rw [e] at ht
    cases ht
    exact herr _ _ _ h
  · rw [e] at ht
    cases ht
    rcases (body (Run.start s)).retire_cases (encode i) with ⟨_, e⟩ | ⟨f, _, e⟩ <;> rw [e]
    · exact hok _ _ hbody
    · exact herr _ _ _ hbody

/-- A selector in range. -/
theorem selector_some {n : Nat} {sel : BitVec 4} (h : sel.toNat < n) :
    selector n sel = some ⟨sel.toNat, h⟩ := by simp [selector, h]

/-- A selector out of range. -/
theorem selector_none {n : Nat} {sel : BitVec 4} (h : n ≤ sel.toNat) : selector n sel = none := by
  simp [selector, h]

end Sys2Proof.Machine
end

