-- ==== Sys2Proof/Laws/Word.lean ====
section
/-! SUPPORT. Reading after writing in the two small collections. -/

namespace Sys2Proof

namespace Pair
variable {α : Type}

@[simp] theorem get_zero (p : Pair α) : p.get 0 = p.left := rfl
@[simp] theorem get_one (p : Pair α) : p.get 1 = p.right := rfl
@[simp] theorem set_zero (p : Pair α) (v : α) : p.set 0 v = { p with left := v } := rfl
@[simp] theorem set_one (p : Pair α) (v : α) : p.set 1 v = { p with right := v } := rfl
@[simp] theorem get_all (v : α) (m : Fin 2) : (all v).get m = v := by
  match m with
  | 0 => rfl
  | 1 => rfl

theorem get_set (p : Pair α) (m n : Fin 2) (v : α) :
    (p.set m v).get n = if n = m then v else p.get n := by
  match m, n with
  | 0, 0 => rfl
  | 0, 1 => rfl
  | 1, 0 => rfl
  | 1, 1 => rfl

@[simp] theorem get_set_same (p : Pair α) (m : Fin 2) (v : α) : (p.set m v).get m = v := by
  simp [get_set]

@[simp] theorem set_set (p : Pair α) (m : Fin 2) (v w : α) : (p.set m v).set m w = p.set m w := by
  match m with
  | 0 => rfl
  | 1 => rfl

end Pair

namespace Quad
variable {α β : Type}

@[simp] theorem get_zero (q : Quad α) : q.get 0 = q.c0 := rfl
@[simp] theorem get_one (q : Quad α) : q.get 1 = q.c1 := rfl
@[simp] theorem get_two (q : Quad α) : q.get 2 = q.c2 := rfl
@[simp] theorem get_three (q : Quad α) : q.get 3 = q.c3 := rfl
@[simp] theorem set_zero (q : Quad α) (v : α) : q.set 0 v = { q with c0 := v } := rfl
@[simp] theorem set_one (q : Quad α) (v : α) : q.set 1 v = { q with c1 := v } := rfl
@[simp] theorem set_two (q : Quad α) (v : α) : q.set 2 v = { q with c2 := v } := rfl
@[simp] theorem set_three (q : Quad α) (v : α) : q.set 3 v = { q with c3 := v } := rfl

@[simp] theorem get_all (v : α) (i : Fin 4) : (all v).get i = v := by
  match i with
  | 0 => rfl
  | 1 => rfl
  | 2 => rfl
  | 3 => rfl

@[simp] theorem get_map (f : α → β) (q : Quad α) (i : Fin 4) : (q.map f).get i = f (q.get i) := by
  match i with
  | 0 => rfl
  | 1 => rfl
  | 2 => rfl
  | 3 => rfl

@[simp] theorem get_set_same (q : Quad α) (i : Fin 4) (v : α) : (q.set i v).get i = v := by
  match i with
  | 0 => rfl
  | 1 => rfl
  | 2 => rfl
  | 3 => rfl

theorem get_set_ne (q : Quad α) {i j : Fin 4} (v : α) (h : j ≠ i) :
    (q.set i v).get j = q.get j := by
  match i, j with
  | 0, 0 => exact absurd rfl h
  | 0, 1 => rfl
  | 0, 2 => rfl
  | 0, 3 => rfl
  | 1, 0 => rfl
  | 1, 1 => exact absurd rfl h
  | 1, 2 => rfl
  | 1, 3 => rfl
  | 2, 0 => rfl
  | 2, 1 => rfl
  | 2, 2 => exact absurd rfl h
  | 2, 3 => rfl
  | 3, 0 => rfl
  | 3, 1 => rfl
  | 3, 2 => rfl
  | 3, 3 => exact absurd rfl h

theorem get_set (q : Quad α) (i j : Fin 4) (v : α) :
    (q.set i v).get j = if j = i then v else q.get j := by
  by_cases h : j = i
  · subst h; simp
  · simp [h, get_set_ne q v h]

@[simp] theorem set_set (q : Quad α) (i : Fin 4) (v w : α) : (q.set i v).set i w = q.set i w := by
  match i with
  | 0 => rfl
  | 1 => rfl
  | 2 => rfl
  | 3 => rfl

theorem ext_get {p q : Quad α} (h : ∀ i, p.get i = q.get i) : p = q := by
  cases p; cases q
  have h0 := h 0; have h1 := h 1; have h2 := h 2; have h3 := h 3
  simp only [get_zero, get_one, get_two, get_three] at h0 h1 h2 h3
  simp [h0, h1, h2, h3]

end Quad
end Sys2Proof
end

