-- ==== Sys2Proof/Laws/Operations.lean ====
section
/-! SUPPORT. What the shared operations of the families can do: the motor step, the LED group, a
row of bus writes, the writes of FRAME, the notify step, and the parts of a tick step. -/

namespace Sys2Proof.Machine

/-! ### Motors and LEDs -/

theorem motorAt_eq (cfg : Config) (v : Int) :
    motorAt cfg v = ⟨BitVec.ofInt 16 (clampSpeed v), (dutyPair cfg (clampSpeed v)).1,
      (dutyPair cfg (clampSpeed v)).2⟩ := by
  have hc : max (-16384) (min v 16384) = clampSpeed v := by
    simp only [clampSpeed, clamp, ONE, Nat.cast_ofNat]
    split_ifs <;> omega
  have hb : -16384 ≤ clampSpeed v ∧ clampSpeed v ≤ 16384 := by rw [← hc]; omega
  simp only [motorAt, hc, dutyPair, ONE, dutyOf]
  generalize clampSpeed v = c at *
  have tn : ∀ x : Int, 0 ≤ x → BitVec.ofInt 16 x = BitVec.ofNat 16 x.toNat := by
    intro x hx; rw [← BitVec.ofInt_natCast, Int.toNat_of_nonneg hx]
  split
  · simp only [Nat.cast_ofNat]; rw [tn (16384 - c) (by omega)]; rfl
  · split
    · simp only [Nat.cast_ofNat]; rw [tn (16384 + c) (by omega)]; rfl
    · have : c = 0 := by omega
      subst this; rfl

/-- The step `SetSpeed` when its three leaf operations succeed. -/
theorem Run.setSpeed_ok (s : State) (k : Nat) (v : W32) (m : Fin 2) (x : Int) (h : s.LeavesOk 3) :
    Run.setSpeed ⟨s, k, none, v⟩ m x =
      ⟨({ s with motorEn := true, motors := s.motors.set m (motorAt s.cfg x) } :
        State).leavesMade 3, k + 3, none, v⟩ := by
  have h1 : (s.storeSpeed m (clampSpeed x)).LeavesOk 1 := fun hc j hj => h hc j (by omega)
  have h2 : (((s.storeSpeed m (clampSpeed x)).driveGpio .motorEn true).leavesMade 1).LeavesOk 1 := by
    have h3 : State.LeavesOk s (2 + 1) := h
    exact State.LeavesOk.mono (State.LeavesOk.next h3 rfl rfl rfl) (by omega)
  simp only [Run.setSpeed, Run.write_none, Run.leaves_cons, Run.leaves_nil]
  rw [Run.gpio_ok _ _ h1, Run.pwm_ok _ _ h2, Run.pwm_ok]
  · rw [motorAt_eq]
    match m with
    | 0 =>
      by_cases hc : s.cfg.leafCanFail = true <;>
        simp [posLeg, negLeg, State.drivePwm, State.driveGpio, State.storeSpeed,
          State.leavesMade, hc]
    | 1 =>
      by_cases hc : s.cfg.leafCanFail = true <;>
        simp [posLeg, negLeg, State.drivePwm, State.driveGpio, State.storeSpeed,
          State.leavesMade, hc]
  · intro hf j hj
    match m with
    | 0 =>
      simp [posLeg, State.drivePwm, State.driveGpio, State.storeSpeed, State.leavesMade] at hf hj ⊢
      have := h hf 2 (by omega)
      simp [hf, State.answerAt, hj] at this ⊢; exact this
    | 1 =>
      simp [posLeg, State.drivePwm, State.driveGpio, State.storeSpeed, State.leavesMade] at hf hj ⊢
      have := h hf 2 (by omega)
      simp [hf, State.answerAt, hj] at this ⊢; exact this

/-- Both motors when the six leaf operations succeed. -/
theorem Run.setSpeeds_ok (s : State) (k : Nat) (v : W32) (x y : Int) (h : s.LeavesOk 6) :
    Run.setSpeeds ⟨s, k, none, v⟩ x y =
      ⟨({ s with motorEn := true, motors := ⟨motorAt s.cfg x, motorAt s.cfg y⟩ } :
        State).leavesMade 6, k + 6, none, v⟩ := by
  simp only [Run.setSpeeds]
  rw [Run.setSpeed_ok _ _ _ _ _ (h.mono (by omega)), Run.setSpeed_ok]
  · by_cases hc : s.cfg.leafCanFail = true <;> simp [State.leavesMade, hc]
  · intro hf j hj
    have := h hf (3 + j) (by omega)
    simp [State.leavesMade] at hf ⊢
    simpa [hf, State.answerAt, ← Nat.add_assoc] using this

theorem State.leavesMade_zero (s : State) : s.leavesMade 0 = s := by
  simp only [State.leavesMade, ite_self, Nat.add_zero]

/-- PWM writes, one after the other, that all succeed. -/
theorem Run.pwms_ok (ops : List (PwmChannel × W16)) : ∀ (s : State) (k : Nat) (v : W32),
    s.LeavesOk ops.length →
    Run.leaves ⟨s, k, none, v⟩ (ops.map fun p => .pwmSet p.1 p.2) =
      ⟨(ops.foldl (fun s p => s.drivePwm p.1 p.2) s).leavesMade ops.length, k + ops.length, none,
        v⟩ := by
  induction ops with
  | nil => intro s k v _; exact congrArg (Run.mk · k none v) (State.leavesMade_zero s).symm
  | cons p ops ih =>
    intro s k v h
    have hd : ∀ (t : State) (p : PwmChannel × W16),
        (t.drivePwm p.1 p.2).cfg = t.cfg ∧ (t.drivePwm p.1 p.2).env = t.env := by
      intro t p; obtain ⟨ch, d⟩ := p; cases ch <;> exact ⟨rfl, rfl⟩
    simp only [List.map_cons, Run.leaves_cons]
    rw [Run.pwm_ok _ _ (h.mono (by simp)), ih]
    · have comm : ∀ (l : List (PwmChannel × W16)) (t : State),
          l.foldl (fun s p => s.drivePwm p.1 p.2) (t.leavesMade 1) =
            (l.foldl (fun s p => s.drivePwm p.1 p.2) t).leavesMade 1 := by
        intro l
        induction l with
        | nil => intro t; rfl
        | cons q l ihl =>
          intro t
          simp only [List.foldl_cons]
          rw [← ihl]
          obtain ⟨ch, d⟩ := q
          cases ch <;> rfl
      rw [comm, State.leavesMade_leavesMade]
      simp only [List.foldl_cons, List.length_cons, Nat.add_comm 1, Nat.add_assoc]
    · refine State.LeavesOk.next (s := s) h (hd s p).1 ?_ ?_
      · show (s.drivePwm p.1 p.2).env.answers = _
        rw [(hd s p).2]
      · show (s.drivePwm p.1 p.2).env.asked + (if (s.drivePwm p.1 p.2).cfg.leafCanFail then 1 else 0) = _
        rw [(hd s p).1, (hd s p).2]

/-- All four LEDs when the four leaf operations succeed. -/
theorem Run.ledAll_ok (s : State) (k : Nat) (v : W32) (d : W16) (h : s.LeavesOk 4) :
    Run.ledAll ⟨s, k, none, v⟩ d =
      ⟨({ s with ledDuty := ⟨d, d, d, d⟩ } : State).leavesMade 4, k + 4, none, v⟩ :=
  Run.pwms_ok [(.led 0, d), (.led 1, d), (.led 2, d), (.led 3, d)] s k v h

/-- `disable()` when its five leaf operations succeed. -/
theorem Run.disable_ok (s : State) (k : Nat) (v : W32) (h : s.LeavesOk 5) :
    Run.disable ⟨s, k, none, v⟩ =
      ⟨({ s with motorEn := false,
                 motors := ⟨⟨s.motors.left.speed, 0, 0⟩, ⟨s.motors.right.speed, 0, 0⟩⟩ } :
        State).leavesMade 5, k + 5, none, v⟩ := by
  have h1 : s.LeavesOk 1 := h.mono (by omega)
  have h4 : ((s.driveGpio .motorEn false).leavesMade 1).LeavesOk 4 :=
    State.LeavesOk.next (s := s) (n := 4) h rfl rfl rfl
  have e : Run.disable ⟨s, k, none, v⟩ =
      (Run.leaf ⟨s, k, none, v⟩ (.gpioWrite .motorEn false)).leaves
        ([(.lp, 0), (.ln, 0), (.rp, 0), (.rn, 0)].map fun p : PwmChannel × W16 =>
          .pwmSet p.1 p.2) := rfl
  rw [e, Run.gpio_ok _ _ h1, Run.pwms_ok _ _ _ _ h4]
  show (⟨(State.leavesMade _ 4), _, _, _⟩ : Run) = _
  by_cases hc : s.cfg.leafCanFail = true <;>
    simp [State.leavesMade, State.driveGpio, State.drivePwm, hc]

/-! ### Leaf operations that fail -/

/-- A failed run makes no more leaf operations. -/
theorem Run.leaves_some (ops : List LeafOp) (s : State) (k : Nat) (f : Failure) (v : W32) :
    Run.leaves ⟨s, k, some f, v⟩ ops = ⟨s, k, some f, v⟩ := by
  induction ops with
  | nil => rfl
  | cons op ops ih => exact ih

/-- With LEAF_CAN_FAIL, a row of leaf operations of which operation `j` is the first that fails: the
effects up to and with `j` stand, none after it (60_exceptions.md R331). -/
theorem Run.leaves_fail (ops : List LeafOp) : ∀ (s : State) (k j : Nat) (v : W32),
    j < ops.length → s.cfg.leafCanFail = true → s.FailsAt j →
    Run.leaves ⟨s, k, none, v⟩ ops =
      ⟨(ops.take (j + 1)).foldl (fun t op => (t.driveLeaf op).countAsked) s, k + j,
        some ⟨.transportFailure, BitVec.ofNat 32 (k + j)⟩, v⟩ := by
  have drive_frame : ∀ (t : State) (op : LeafOp),
      (t.driveLeaf op).cfg = t.cfg ∧ (t.driveLeaf op).env = t.env := by
    intro t op
    cases op with
    | pwmSet ch d => cases ch <;> exact ⟨rfl, rfl⟩
    | gpioWrite l b => cases l <;> exact ⟨rfl, rfl⟩
    | i2cWrite b => exact ⟨rfl, rfl⟩
  induction ops with
  | nil => intro s k j v hj; simp at hj
  | cons op ops ih =>
    intro s k j v hj hc hf
    have asks : op.asks s.cfg = true := by cases op <;> simp [LeafOp.asks, hc]
    have e := s.leaf_eq op
    rw [if_pos asks] at e
    rw [Run.leaves_cons]
    cases j with
    | zero =>
      have h0 : s.answerAt s.env.asked = .fail := hf.2
      rw [h0] at e
      rw [Run.leaf_fail e, Run.leaves_some]
      rfl
    | succ j =>
      have h0 : s.answerAt s.env.asked = .ok := hf.1 0 (by omega)
      rw [h0] at e
      obtain ⟨dc, de⟩ := drive_frame s op
      have hk : ((s.driveLeaf op).countAsked).env.asked = s.env.asked + 1 := by
        show (s.driveLeaf op).env.asked + 1 = _
        rw [de]
      have ha : ((s.driveLeaf op).countAsked).env.answers = s.env.answers := by
        show (s.driveLeaf op).env.answers = _
        rw [de]
      have hc' : ((s.driveLeaf op).countAsked).cfg.leafCanFail = true := by
        show (s.driveLeaf op).cfg.leafCanFail = _
        rw [dc, hc]
      rw [Run.leaf_ok e, ih _ _ j _ (by simpa using hj) hc']
      · simp [Nat.add_assoc, Nat.add_comm 1]
      · refine ⟨State.AnswersOk.next hf.1 ha hk, ?_⟩
        have := hf.2
        rw [State.answerAt_congr ha, hk]
        rwa [show s.env.asked + 1 + j = s.env.asked + (j + 1) by omega]

/-! ### Slot numbers -/

/-- A slot number below N_SUB goes on with that slot. -/
theorem Run.withSlot_ok (s : State) (k : Nat) (v : W32) {slot : BitVec 4} (g : Nat → Run → Run)
    (h : slot.toNat < s.cfg.nSub) :
    Run.withSlot ⟨s, k, none, v⟩ slot g = g slot.toNat ⟨s, k, none, v⟩ := by
  simp only [Run.withSlot, Run.withSelector, selector_some h, Run.andThen_none]

/-- A slot number of N_SUB or more raises InvalidInput with that number. -/
theorem Run.withSlot_out (s : State) (k : Nat) (v : W32) {slot : BitVec 4} (g : Nat → Run → Run)
    (h : s.cfg.nSub ≤ slot.toNat) :
    Run.withSlot ⟨s, k, none, v⟩ slot g = ⟨s, k, some ⟨.invalidInput, zext32 slot⟩, v⟩ := by
  simp only [Run.withSlot, Run.withSelector, selector_none h, Run.raise_none]

/-! ### Bus writes -/

/-- A row of bus writes that all succeed. -/
theorem Run.i2cs_ok (ws : List (List Byte)) : ∀ (s : State) (k : Nat) (v : W32),
    s.AnswersOk ws.length →
    ws.foldl Run.i2c ⟨s, k, none, v⟩ = ⟨s.busMade ws, k + ws.length, none, v⟩ := by
  induction ws with
  | nil => intro s k v _; simp [State.busMade]
  | cons w ws ih =>
    intro s k v h
    simp only [List.foldl_cons]
    have h' : s.AnswersOk (ws.length + 1) := h
    have ht : (s.busMade [w]).AnswersOk ws.length := State.AnswersOk.next h' rfl rfl
    rw [Run.i2c_ok _ (h'.mono (by omega)), ih _ _ _ ht, State.busMade_busMade]
    simp only [List.singleton_append, List.length_cons, Nat.add_comm 1, Nat.add_assoc]

/-- A failed run makes no more bus writes. -/
theorem Run.i2cs_some (ws : List (List Byte)) (s : State) (k : Nat) (f : Failure) (v : W32) :
    ws.foldl Run.i2c ⟨s, k, some f, v⟩ = ⟨s, k, some f, v⟩ := by
  induction ws with
  | nil => rfl
  | cons w ws ih => exact ih

/-- A row of bus writes of which write `j` is the first that fails. -/
theorem Run.i2cs_fail (ws : List (List Byte)) : ∀ (s : State) (k j : Nat) (v : W32),
    j < ws.length → s.FailsAt j →
    ws.foldl Run.i2c ⟨s, k, none, v⟩ =
      ⟨s.busFailed ws j, k + j, some ⟨.transportFailure, BitVec.ofNat 32 (k + j)⟩, v⟩ := by
  induction ws with
  | nil => intro s k j v hj; simp at hj
  | cons w ws ih =>
    intro s k j v hj hf
    simp only [List.foldl_cons]
    cases j with
    | zero =>
      have h0 : s.answerAt s.env.asked = .fail := hf.2
      have e : s.leaf (.i2cWrite w) = (s.busFailed (w :: ws) 0, .fail) := by
        simp [State.leaf, h0, State.busFailed, State.countAsked, busEntry]
      rw [show Run.i2c ⟨s, k, none, v⟩ w = _ from Run.leaf_fail e, Run.i2cs_some]
      rfl
    | succ j =>
      have hA : s.AnswersOk (j + 1) := hf.1
      rw [Run.i2c_ok _ (hA.mono (by omega)), ih _ _ j _ (by simpa using hj)]
      · simp [State.busFailed, State.busMade, Nat.add_assoc, Nat.add_comm 1]
      · refine ⟨State.AnswersOk.next hA rfl rfl, ?_⟩
        have := hf.2
        rw [State.answerAt_congr (t := s.busMade [w]) (s := s) rfl]
        show s.answerAt (s.env.asked + 1 + j) = _
        rwa [show s.env.asked + 1 + j = s.env.asked + (j + 1) by omega]

/-! ### FRAME -/

/-- `SetLight` writes its three cells and nothing else. -/
theorem State.setLight_spec (s : State) (l : Fin 6) (r g b : Byte) :
    ∃ f', s.setLight l r g b = { s with frame := f' } ∧ LightWritten s.frame f' l.val r g b := by
  have hl := l.isLt
  refine ⟨((s.frame.write (3 * l.val) r).write (3 * l.val + 1) g).write (3 * l.val + 2) b, ?_, ?_⟩
  · unfold State.setLight
    rw [State.memWrite_frame _ _ (by omega), State.memWrite_frame _ _ (by omega),
      State.memWrite_frame _ _ (by omega)]
  · intro a
    simp only [Memory.read_write]
    repeat' split
    all_goals first | rfl | omega

/-- `for L in 0..5: SetLight` writes every cell of FRAME and nothing else. -/
theorem State.setAllLights_spec (s : State) (r g b : Byte) :
    ∃ f', s.setAllLights r g b = { s with frame := f' } ∧ AllLightsWritten s.frame f' r g b := by
  obtain ⟨f0, e0, h0⟩ := s.setLight_spec 0 r g b
  obtain ⟨f1, e1, h1⟩ := ({ s with frame := f0 } : State).setLight_spec 1 r g b
  obtain ⟨f2, e2, h2⟩ := ({ s with frame := f1 } : State).setLight_spec 2 r g b
  obtain ⟨f3, e3, h3⟩ := ({ s with frame := f2 } : State).setLight_spec 3 r g b
  obtain ⟨f4, e4, h4⟩ := ({ s with frame := f3 } : State).setLight_spec 4 r g b
  obtain ⟨f5, e5, h5⟩ := ({ s with frame := f4 } : State).setLight_spec 5 r g b
  refine ⟨f5, ?_, ?_⟩
  · simp only [State.setAllLights, List.foldl_cons, List.foldl_nil]
    rw [e0, e1, e2, e3, e4, e5]
  · intro a
    have g5 := h5 a
    have g4 := h4 a
    have g3 := h3 a
    have g2 := h2 a
    have g1 := h1 a
    have g0 := h0 a
    clear h0 h1 h2 h3 h4 h5 e0 e1 e2 e3 e4 e5
    simp only at g0 g1 g2 g3 g4 g5
    rw [g5, g4, g3, g2, g1, g0]
    by_cases ha : a < 18
    · rw [if_pos ha]
      interval_cases a <;> rfl
    · rw [if_neg ha]
      have n : ∀ j : Nat, j < 18 → a ≠ j := by omega
      simp only [Fin.isValue, Fin.val_zero, Fin.val_one, Fin.val_two,
        show ((3 : Fin 6) : Nat) = 3 from rfl, show ((4 : Fin 6) : Nat) = 4 from rfl,
        show ((5 : Fin 6) : Nat) = 5 from rfl, Nat.reduceMul, Nat.reduceAdd]
      iterate 18 rw [if_neg (n _ (by norm_num))]

/-- `for i in 0..17: MemWrite(FRAME, i, 0)` clears FRAME and nothing else. -/
theorem State.clearFrame_spec (s : State) :
    ∃ f', s.clearFrame = { s with frame := f' } ∧
      ∀ a, Memory.read f' a = if a < 18 then 0 else s.frame.read a := by
  have key : ∀ n, n ≤ 18 → ∃ f', (List.range n).foldl (fun s i => s.memWrite .frame i 0) s =
      { s with frame := f' } ∧ ∀ a, Memory.read f' a = if a < n then 0 else s.frame.read a := by
    intro n
    induction n with
    | zero => intro _; exact ⟨s.frame, rfl, fun a => by simp⟩
    | succ n ih =>
      intro hn
      obtain ⟨f', e, h⟩ := ih (by omega)
      refine ⟨f'.write n 0, ?_, ?_⟩
      · rw [List.range_succ, List.foldl_append, e]
        exact State.memWrite_frame _ _ (by omega)
      · intro a
        rw [Memory.read_write, h a]
        repeat' split
        all_goals first | rfl | omega
  exact key 18 (by omega)

/-! ### The notify step and the parts of a tick step -/

/-- Slots that hold the same read the same. -/
theorem State.slot_congr {s t : State} (h : t.subs = s.subs) (i : Nat) : t.slot i = s.slot i := by
  simp only [State.slot, h]

/-- A changed slot, if it is there, reads as changed, and every other as before. -/
theorem State.modifySlot_slot (s : State) {i : Nat} (h : i < s.subs.length)
    (f : Subscriber → Subscriber) (j : Nat) :
    (s.modifySlot i f).slot j = if j = i then f (s.slot i) else s.slot j := by
  by_cases e : j = i
  · subst e
    simp [State.modifySlot, State.slot, h]
  · simp [State.modifySlot, State.slot, e, List.getElem?_set_ne (Ne.symm e)]

/-- `emit` notifies every slot. -/
theorem State.emit_slot_eq (s : State) (b : Fin 4) (k : EventKind) (i : Nat) :
    (s.emit b k).slot i = (s.slot i).notify (eventBit b k) := by
  simp only [State.slot, State.emit, List.getD_eq_getElem?_getD, List.getElem?_map]
  cases s.subs[i]? <;> simp [Subscriber.notify]

/-- What `emit` does to a slot; the mask stays. -/
theorem State.emit_slot (s : State) (b : Fin 4) (k : EventKind) (i : Nat) :
    ((s.emit b k).slot i).mask = (s.slot i).mask ∧
    ((s.emit b k).slot i).pend =
      if (s.slot i).mask.getLsbD (eventBit b k)
      then (s.slot i).pend ||| BitVec.twoPow 12 (eventBit b k) else (s.slot i).pend := by
  rw [State.emit_slot_eq, Subscriber.notify]
  split <;> exact ⟨rfl, rfl⟩

theorem State.emit_evcnt_get (s : State) (b : Fin 4) (k : EventKind) (b' : Fin 4) :
    (s.emit b k).evcnt.get b' = if b' = b then (s.evcnt.get b).bump k else s.evcnt.get b' := by
  simp only [State.emit, Quad.get_set]

/-- Notify steps change EVCNT and PEND only, and EVCNT only of their button. -/
theorem State.emits_frame (b : Fin 4) (ks : List EventKind) : ∀ s : State,
    let t := ks.foldl (fun s k => s.emit b k) s
    t = { s with evcnt := t.evcnt, subs := t.subs } ∧
    (∀ b', b' ≠ b → t.evcnt.get b' = s.evcnt.get b') ∧
    ∀ i, (t.slot i).mask = (s.slot i).mask := by
  induction ks with
  | nil => intro s; exact ⟨rfl, fun _ _ => rfl, fun _ => rfl⟩
  | cons k ks ih =>
    intro s
    obtain ⟨h1, h2, h3⟩ := ih (s.emit b k)
    refine ⟨h1, fun b' hb => ?_, fun i => ?_⟩
    · exact (h2 b' hb).trans (by rw [State.emit_evcnt_get, if_neg hb])
    · exact (h3 i).trans (s.emit_slot b k i).1

/-- A tick of a button channel changes that channel, its event counts and PEND, nothing else. -/
theorem State.buttonTick_frame (s : State) (b : Fin 4) (r : Bool) :
    let t := s.buttonTick b r
    t = { s with channels := t.channels, evcnt := t.evcnt, subs := t.subs } ∧
    t.channels = (if s.btnEn
      then s.channels.set b (channelTick s.btnTune s.now r (s.channels.get b)).1
      else s.channels) ∧
    (∀ b', b' ≠ b → t.evcnt.get b' = s.evcnt.get b') ∧
    ∀ i, (t.slot i).mask = (s.slot i).mask := by
  unfold State.buttonTick
  by_cases h : s.btnEn = true
  · simp only [if_pos h]
    obtain ⟨h1, h2, h3⟩ := State.emits_frame b
      (channelTick s.btnTune s.now r (s.channels.get b)).2
      { s with channels := s.channels.set b (channelTick s.btnTune s.now r (s.channels.get b)).1 }
    exact ⟨h1.trans (by rw [h1]), by rw [h1], h2, h3⟩
  · simp [if_neg h]

/-- A tick of the blink timer changes the LEDs, the timer and, when a leaf operation fails, the
error record; of the environment's record only the number asked. -/
theorem State.blinkTick_frame (s : State) :
    let t := s.blinkTick
    t = { s with ledDuty := t.ledDuty, blinkActive := t.blinkActive, blinkTimer := t.blinkTimer,
                 err := t.err, env := { s.env with asked := t.env.asked } } ∧
    (s.blinkActive = false → t = s) ∧
    (s.cfg.leafCanFail = false → t.err = s.err ∧ t.env = s.env) := by
  have off : ∀ (s : State) (b : Fin 4),
      s.blinkLedOff b = { s with ledDuty := s.ledDuty.set b 0, err := (s.blinkLedOff b).err,
                                 env := { s.env with asked := (s.blinkLedOff b).env.asked } } ∧
      (s.cfg.leafCanFail = false →
        (s.blinkLedOff b).err = s.err ∧ (s.blinkLedOff b).env.asked = s.env.asked) := by
    intro s b
    unfold State.blinkLedOff State.leaf
    by_cases h : s.cfg.leafCanFail = true
    · simp only [h, if_true]
      cases s.answerAt s.env.asked <;> exact ⟨rfl, fun e => by simp at e⟩
    · simp only [h]
      exact ⟨rfl, fun _ => ⟨rfl, rfl⟩⟩
  unfold State.blinkTick
  by_cases ha : s.blinkActive = true
  · by_cases h0 : s.blinkTimer = 0
    · simp only [ha, h0, if_true, List.foldl_cons, List.foldl_nil]
      obtain ⟨e0, k0⟩ := off s 0
      obtain ⟨e1, k1⟩ := off (s.blinkLedOff 0) 1
      obtain ⟨e2, k2⟩ := off ((s.blinkLedOff 0).blinkLedOff 1) 2
      obtain ⟨e3, k3⟩ := off (((s.blinkLedOff 0).blinkLedOff 1).blinkLedOff 2) 3
      refine ⟨?_, fun h => by simp at h, fun hf => ?_⟩
      · rw [e3, e2, e1, e0]
      · have c1 : (s.blinkLedOff 0).cfg = s.cfg := by rw [e0]
        have c2 : ((s.blinkLedOff 0).blinkLedOff 1).cfg = s.cfg := by rw [e1, c1]
        have c3 : (((s.blinkLedOff 0).blinkLedOff 1).blinkLedOff 2).cfg = s.cfg := by rw [e2, c2]
        have a0 := k0 hf
        have a1 := k1 (by rw [c1]; exact hf)
        have a2 := k2 (by rw [c2]; exact hf)
        have a3 := k3 (by rw [c3]; exact hf)
        refine ⟨by rw [a3.1, a2.1, a1.1, a0.1], ?_⟩
        show ((((s.blinkLedOff 0).blinkLedOff 1).blinkLedOff 2).blinkLedOff 3).env = s.env
        have : ((((s.blinkLedOff 0).blinkLedOff 1).blinkLedOff 2).blinkLedOff 3).env =
            { s.env with asked := s.env.asked } := by
          rw [e3, a3.2, a2.2, a1.2, a0.2]
          simp only
          rw [e2, e1, e0]
        exact this
    · simp only [if_pos ha, if_neg h0]
      simp [ha]
  · simp [if_neg ha]

/-- What only the engine's registers, TRIG and the number of leaf operations asked differ in. -/
def State.OnlyEngine (s t : State) : Prop :=
  t = { s with us := t.us, trig := t.trig, env := { s.env with asked := t.env.asked } } ∧
  (s.cfg.leafCanFail = false → t.env.asked = s.env.asked)

theorem State.OnlyEngine.refl (s : State) : s.OnlyEngine s := ⟨rfl, fun _ => rfl⟩

theorem State.OnlyEngine.trans {s t u : State} (h : s.OnlyEngine t) (k : t.OnlyEngine u) :
    s.OnlyEngine u := by
  have hc : t.cfg = s.cfg := by rw [h.1]
  refine ⟨?_, fun hf => (k.2 (by rw [hc]; exact hf)).trans (h.2 hf)⟩
  rw [k.1, h.1]

/-- A change of the engine's registers. -/
theorem Run.engine_only {s : State} {r : Run} (h : s.OnlyEngine r.state) (g : Engine → Engine) :
    s.OnlyEngine (r.engine g).state :=
  Run.engine_keeps (P := s.OnlyEngine) r g (fun h => h.trans ⟨rfl, fun _ => rfl⟩) h

/-- A write of the trigger line. -/
theorem Run.trig_only {s : State} {r : Run} (h : s.OnlyEngine r.state) (v : Bool) :
    s.OnlyEngine (r.leaf (.gpioWrite .trig v)).state := by
  have key : ∀ t : State, t.OnlyEngine (t.leaf (.gpioWrite .trig v)).1 := by
    intro t
    unfold State.leaf
    by_cases hc : t.cfg.leafCanFail = true
    · simp only [hc, if_true]
      exact ⟨rfl, fun e => by simp [hc] at e⟩
    · simp only [if_neg hc]
      exact ⟨rfl, fun _ => rfl⟩
  rcases r.leaf_cases (.gpioWrite .trig v) with ⟨_, e⟩ | ⟨_, _, e⟩ | ⟨_, _, e⟩ <;> rw [e]
  · exact h
  · exact h.trans (key _)
  · exact h.trans (key _)

theorem Run.finish_only {s : State} {r : Run} (h : s.OnlyEngine r.state) :
    s.OnlyEngine r.finish.state := Run.engine_only (Run.trig_only h false) _

theorem Run.endSample_only {s : State} {r : Run} (h : s.OnlyEngine r.state) :
    s.OnlyEngine r.endSample.state := by
  unfold Run.endSample
  split
  · exact Run.engine_only h _
  · exact Run.finish_only h

/-- The engine's tick, up to its first failing leaf operation, changes its own registers only. -/
theorem Run.engineStep_only (s : State) (e : Bool) :
    s.OnlyEngine ((Run.start s).engineStep e).state := by
  have h0 : s.OnlyEngine (Run.start s).state := State.OnlyEngine.refl s
  unfold Run.engineStep
  simp only
  have h1 := Run.engine_only h0 fun u => { u with ocnt := upSat u.ocnt }
  generalize (Run.start s).engine (fun u => { u with ocnt := upSat u.ocnt }) = r at h1
  split
  · exact Run.finish_only h1
  · split
    · exact h1
    · unfold Run.engineGap
      split
      · exact Run.engine_only (Run.trig_only h1 true) _
      · exact Run.engine_only h1 _
    · unfold Run.engineTrig
      have h2 := Run.engine_only h1 fun u => { u with ctr := u.ctr - 1 }
      simp only
      split
      · exact Run.engine_only (Run.trig_only h2 false) _
      · exact h2
    · unfold Run.engineWaitRise
      have h2 := Run.engine_only h1 fun u => { u with scnt := upSat u.scnt }
      simp only
      refine Run.engine_only ?_ _
      split
      · exact Run.engine_only h2 _
      · split
        · exact Run.endSample_only h2
        · exact h2
    · unfold Run.engineWaitFall
      have h2 := Run.engine_only h1 fun u => { u with scnt := upSat u.scnt, stopw := upSat u.stopw }
      simp only
      refine Run.engine_only ?_ _
      split
      · exact Run.endSample_only (Run.engine_only h2 _)
      · split
        · exact Run.endSample_only h2
        · exact h2

/-- Without LEAF_CAN_FAIL a write of the trigger line does not fail. -/
theorem Run.trig_total {r : Run} (hc : r.state.cfg.leafCanFail = false) (h : r.failure = none)
    (v : Bool) : (r.leaf (.gpioWrite .trig v)).failure = none := by
  obtain ⟨s, k, f, w⟩ := r
  simp only at h hc
  subst h
  rw [Run.gpio_ok _ _ fun e => by rw [hc] at e; cases e]

/-- A change of the engine's registers raises nothing. -/
theorem Run.engine_failure (r : Run) (g : Engine → Engine) : (r.engine g).failure = r.failure := by
  obtain ⟨s, k, f, w⟩ := r
  cases f <;> rfl

/-- A tick of the engine changes its registers, TRIG, the number of leaf operations asked and, when
one fails, the error record; nothing when the engine is idle. -/
theorem State.engineTick_frame (s : State) (e : Bool) :
    let t := s.engineTick e
    t = { s with us := t.us, trig := t.trig, err := t.err,
                 env := { s.env with asked := t.env.asked } } ∧
    (s.us.st = .idle → t = s) := by
  unfold State.engineTick
  by_cases h : s.us.st = .idle
  · simp [if_pos h]
  · simp only [if_neg h]
    have k := (Run.engineStep_only s e).1
    refine ⟨?_, fun hi => absurd hi h⟩
    split
    · exact k.trans (by rw [k])
    · unfold State.engineFailed State.recordError
      rw [k]

end Sys2Proof.Machine
end

