-- ==== Sys2Proof/Laws/PerInstr.lean ====
section
/-! SUPPORT. Statements about every command as syntax, one lemma per constructor. -/

namespace Sys2Proof.Laws

/-- The opcode of a command (30_encoding.md R95). -/
def opcodeOf (i : Instr) : BitVec 8 :=
  match i with
  | .nop => 0x00
  | .rd _ => 0x01
  | .wr _ _ => 0x02
  | .srst => 0x03
  | .mset _ _ => 0x10
  | .mboth _ => 0x11
  | .mdis => 0x12
  | .mfwd _ => 0x13
  | .mbwd _ => 0x14
  | .mtl _ => 0x15
  | .mtr _ => 0x16
  | .mcfl _ => 0x17
  | .mcfr _ => 0x18
  | .mcbl _ => 0x19
  | .mcbr _ => 0x1A
  | .mstop => 0x1B
  | .mcoast => 0x1C
  | .bled _ _ => 0x20
  | .bledb _ _ => 0x21
  | .bledall _ => 0x22
  | .bledallb _ => 0x23
  | .bhold _ => 0x24
  | .bsub _ _ => 0x25
  | .bunsub _ _ => 0x26
  | .back _ _ => 0x27
  | .bblink _ => 0x28
  | .snen => 0x30
  | .sndis => 0x31
  | .snrst => 0x32
  | .snmask _ => 0x33
  | .snupd => 0x34
  | .snout _ => 0x35
  | .snoutr _ => 0x36
  | .stw _ _ => 0x37
  | .str _ => 0x38
  | .uinit => 0x40
  | .ufini => 0x41
  | .uset _ _ _ _ _ => 0x42
  | .ufill _ _ _ _ => 0x43
  | .uclr _ _ => 0x44
  | .uclrall _ => 0x45
  | .ushow => 0x46
  | .uhsv _ _ _ _ _ => 0x47
  | .ufillhsv _ _ _ _ => 0x48
  | .urd _ => 0x50
  | .ucancel => 0x51
  | .uget => 0x52

/-- The encoded word of a command has the command's opcode in its bits 63 to 56 (30_encoding.md
R91, R95). -/
def EncodedOpcode.Statement (i : Instr) : Prop := (encode i).extractLsb' 56 8 = opcodeOf i

theorem EncodedOpcode.nop :
    EncodedOpcode.Statement (.nop) := pack_opc _ _ _ _ _ _
theorem EncodedOpcode.rd (reg : W16) :
    EncodedOpcode.Statement (.rd reg) := pack_opc _ _ _ _ _ _
theorem EncodedOpcode.wr (reg : W16) (value : W32) :
    EncodedOpcode.Statement (.wr reg value) := pack_opc _ _ _ _ _ _
theorem EncodedOpcode.srst :
    EncodedOpcode.Statement (.srst) := pack_opc _ _ _ _ _ _
theorem EncodedOpcode.mset (motor : BitVec 4) (speed : W16) :
    EncodedOpcode.Statement (.mset motor speed) := pack_opc _ _ _ _ _ _
theorem EncodedOpcode.mboth (speed : W16) :
    EncodedOpcode.Statement (.mboth speed) := pack_opc _ _ _ _ _ _
theorem EncodedOpcode.mdis :
    EncodedOpcode.Statement (.mdis) := pack_opc _ _ _ _ _ _
theorem EncodedOpcode.mfwd (speed : W16) :
    EncodedOpcode.Statement (.mfwd speed) := pack_opc _ _ _ _ _ _
theorem EncodedOpcode.mbwd (speed : W16) :
    EncodedOpcode.Statement (.mbwd speed) := pack_opc _ _ _ _ _ _
theorem EncodedOpcode.mtl (speed : W16) :
    EncodedOpcode.Statement (.mtl speed) := pack_opc _ _ _ _ _ _
theorem EncodedOpcode.mtr (speed : W16) :
    EncodedOpcode.Statement (.mtr speed) := pack_opc _ _ _ _ _ _
theorem EncodedOpcode.mcfl (speed : W16) :
    EncodedOpcode.Statement (.mcfl speed) := pack_opc _ _ _ _ _ _
theorem EncodedOpcode.mcfr (speed : W16) :
    EncodedOpcode.Statement (.mcfr speed) := pack_opc _ _ _ _ _ _
theorem EncodedOpcode.mcbl (speed : W16) :
    EncodedOpcode.Statement (.mcbl speed) := pack_opc _ _ _ _ _ _
theorem EncodedOpcode.mcbr (speed : W16) :
    EncodedOpcode.Statement (.mcbr speed) := pack_opc _ _ _ _ _ _
theorem EncodedOpcode.mstop :
    EncodedOpcode.Statement (.mstop) := pack_opc _ _ _ _ _ _
theorem EncodedOpcode.mcoast :
    EncodedOpcode.Statement (.mcoast) := pack_opc _ _ _ _ _ _
theorem EncodedOpcode.bled (button : BitVec 4) (intensity : W16) :
    EncodedOpcode.Statement (.bled button intensity) := pack_opc _ _ _ _ _ _
theorem EncodedOpcode.bledb (button : BitVec 4) (on : Bool) :
    EncodedOpcode.Statement (.bledb button on) := pack_opc _ _ _ _ _ _
theorem EncodedOpcode.bledall (intensity : W16) :
    EncodedOpcode.Statement (.bledall intensity) := pack_opc _ _ _ _ _ _
theorem EncodedOpcode.bledallb (on : Bool) :
    EncodedOpcode.Statement (.bledallb on) := pack_opc _ _ _ _ _ _
theorem EncodedOpcode.bhold (button : BitVec 4) :
    EncodedOpcode.Statement (.bhold button) := pack_opc _ _ _ _ _ _
theorem EncodedOpcode.bsub (slot : BitVec 4) (mask : BitVec 12) :
    EncodedOpcode.Statement (.bsub slot mask) := pack_opc _ _ _ _ _ _
theorem EncodedOpcode.bunsub (slot : BitVec 4) (mask : BitVec 12) :
    EncodedOpcode.Statement (.bunsub slot mask) := pack_opc _ _ _ _ _ _
theorem EncodedOpcode.back (slot : BitVec 4) (mask : BitVec 12) :
    EncodedOpcode.Statement (.back slot mask) := pack_opc _ _ _ _ _ _
theorem EncodedOpcode.bblink (interval : W32) :
    EncodedOpcode.Statement (.bblink interval) := pack_opc _ _ _ _ _ _
theorem EncodedOpcode.snen :
    EncodedOpcode.Statement (.snen) := pack_opc _ _ _ _ _ _
theorem EncodedOpcode.sndis :
    EncodedOpcode.Statement (.sndis) := pack_opc _ _ _ _ _ _
theorem EncodedOpcode.snrst :
    EncodedOpcode.Statement (.snrst) := pack_opc _ _ _ _ _ _
theorem EncodedOpcode.snmask (mask : BitVec 18) :
    EncodedOpcode.Statement (.snmask mask) := pack_opc _ _ _ _ _ _
theorem EncodedOpcode.snupd :
    EncodedOpcode.Statement (.snupd) := pack_opc _ _ _ _ _ _
theorem EncodedOpcode.snout (len : W16) :
    EncodedOpcode.Statement (.snout len) := pack_opc _ _ _ _ _ _
theorem EncodedOpcode.snoutr (len : W16) :
    EncodedOpcode.Statement (.snoutr len) := pack_opc _ _ _ _ _ _
theorem EncodedOpcode.stw (idx : W16) (byte : Byte) :
    EncodedOpcode.Statement (.stw idx byte) := pack_opc _ _ _ _ _ _
theorem EncodedOpcode.str (idx : W16) :
    EncodedOpcode.Statement (.str idx) := pack_opc _ _ _ _ _ _
theorem EncodedOpcode.uinit :
    EncodedOpcode.Statement (.uinit) := pack_opc _ _ _ _ _ _
theorem EncodedOpcode.ufini :
    EncodedOpcode.Statement (.ufini) := pack_opc _ _ _ _ _ _
theorem EncodedOpcode.uset (light : BitVec 4) (showNow : Bool) (r g b : W16) :
    EncodedOpcode.Statement (.uset light showNow r g b) := pack_opc _ _ _ _ _ _
theorem EncodedOpcode.ufill (showNow : Bool) (r g b : W16) :
    EncodedOpcode.Statement (.ufill showNow r g b) := pack_opc _ _ _ _ _ _
theorem EncodedOpcode.uclr (light : BitVec 4) (showNow : Bool) :
    EncodedOpcode.Statement (.uclr light showNow) := pack_opc _ _ _ _ _ _
theorem EncodedOpcode.uclrall (showNow : Bool) :
    EncodedOpcode.Statement (.uclrall showNow) := pack_opc _ _ _ _ _ _
theorem EncodedOpcode.ushow :
    EncodedOpcode.Statement (.ushow) := pack_opc _ _ _ _ _ _
theorem EncodedOpcode.uhsv (light : BitVec 4) (showNow : Bool) (h s v : W16) :
    EncodedOpcode.Statement (.uhsv light showNow h s v) := pack_opc _ _ _ _ _ _
theorem EncodedOpcode.ufillhsv (showNow : Bool) (h s v : W16) :
    EncodedOpcode.Statement (.ufillhsv showNow h s v) := pack_opc _ _ _ _ _ _
theorem EncodedOpcode.urd (n : BitVec 8) :
    EncodedOpcode.Statement (.urd n) := pack_opc _ _ _ _ _ _
theorem EncodedOpcode.ucancel :
    EncodedOpcode.Statement (.ucancel) := pack_opc _ _ _ _ _ _
theorem EncodedOpcode.uget :
    EncodedOpcode.Statement (.uget) := pack_opc _ _ _ _ _ _

end Sys2Proof.Laws
end

