-- ==== Sys2Proof/Machine/Assembly.lean ====
section
/-! DEFINITION. The pseudo-instructions (30_encoding.md R99), the decimal fractions and the omitted
operands of the assembler syntax (30_encoding.md R98). -/

namespace Sys2Proof.Machine

/-- The symbolic selectors of 30_encoding.md R98: motors, buttons, lights and event kinds. -/
def selLeft : BitVec 4 := 0
def selRight : BitVec 4 := 1
def selA : BitVec 4 := 0
def selB : BitVec 4 := 1
def selX : BitVec 4 := 2
def selY : BitVec 4 := 3
def selFrontRight : BitVec 4 := 0
def selFrontLeft : BitVec 4 := 1
def selMiddleLeft : BitVec 4 := 2
def selRearLeft : BitVec 4 := 3
def selRearRight : BitVec 4 := 4
def selMiddleRight : BitVec 4 := 5

/-- What an omitted `show` operand means (30_encoding.md R98). -/
def omittedShow : Bool := true

/-- A decimal real `num / den` (den > 0) as a `frac` operand: nearest, then clamped to s16
(30_encoding.md R98; ties upward, log 17). -/
def fracOf (num : Int) (den : Nat) : W16 :=
  let q := (2 * num * ONE + den) / (2 * den : Int)
  BitVec.ofInt 16 (if q < -32768 then -32768 else if q > 32767 then 32767 else q)

/-- The pseudo-instructions of 30_encoding.md R99. -/
inductive Pseudo where
  | bledon (b : BitVec 4)
  | bledoff (b : BitVec 4)
  | ballon
  | balloff
  | bsub1 (s : BitVec 4) (b : Fin 4) (k : Fin 3)
  | bunsub1 (s : BitVec 4) (b : Fin 4) (k : Fin 3)
  | backall (s : BitVec 4)
  | csrr (r : Reg)
  | csrw (r : Reg) (v : W32)
  | urd
deriving DecidableEq, Repr

/-- The command a pseudo-instruction stands for (30_encoding.md R99); URD alone asks for
US_SAMPLES_DEFAULT samples (00_scope.md R5). -/
def expandPseudo (cfg : Config) (p : Pseudo) : Instr :=
  match p with
  | .bledon b => .bledb b true
  | .bledoff b => .bledb b false
  | .ballon => .bledallb true
  | .balloff => .bledallb false
  | .bsub1 s b k => .bsub s (BitVec.twoPow 12 (3 * b.val + k.val))
  | .bunsub1 s b k => .bunsub s (BitVec.twoPow 12 (3 * b.val + k.val))
  | .backall s => .back s 0xFFF
  | .csrr r => .rd (numberOfReg r)
  | .csrw r v => .wr (numberOfReg r) v
  | .urd => .urd cfg.usSamplesDefault

end Sys2Proof.Machine
end

