-- ==== Sys2Proof/Tests/Slice0.lean ====
section
/-! SUPPORT. Tests: ill-formed terms are refused, words written out from the spec decode to their
commands, one step of each command on a small state (expected values from the rule examples and from
95_test_vectors.md), and for every statement with hypotheses a state and operands that meet them. -/

namespace Sys2Proof.Machine.Tests

open Sys2Proof Sys2Proof.Machine

/-! ### Well-formedness -/

theorem test_wellformed_rd_gap_refused : Instr.wellFormed (.rd 0x009) = false := by decide
theorem test_wellformed_rd_above_refused : Instr.wellFormed (.rd 0x200) = false := by decide
theorem test_wellformed_wr_readonly_refused : Instr.wellFormed (.wr 0x010 1) = false := by decide
theorem test_wellformed_wr_gap_refused : Instr.wellFormed (.wr 0x084 0) = false := by decide
theorem test_wellformed_edges_accepted :
    Instr.wellFormed (.rd 0x008) = true ∧ Instr.wellFormed (.rd 0x1FF) = true ∧
    Instr.wellFormed (.wr 0x083 0) = true := by decide

/-! ### Decoding: words from the examples of the rules and from 95_test_vectors.md -/

/-- The word decodes to the command, and is the command's word. -/
def codes (cw : W64) (i : Instr) : Bool :=
  (match decode cw with
   | .ok j => decide (j = i)
   | .error _ => false) && encode i == cw

theorem test_decode_system :
    codes 0x0000000000000000 .nop ∧ codes 0x0100001100000000 (.rd 0x011) ∧
    codes 0x020000220007A120 (.wr 0x022 500000) ∧ codes 0x0300000000000000 .srst := by decide

theorem test_decode_motor :
    codes 0x1010000000008000 (.mset 1 0x8000) ∧ codes 0x1100000000003000 (.mboth 0x3000) ∧
    codes 0x1200000000000000 .mdis ∧ codes 0x130000000000E000 (.mfwd 0xE000) ∧
    codes 0x1400000000002000 (.mbwd 0x2000) ∧ codes 0x1500000000002000 (.mtl 0x2000) ∧
    codes 0x1600000000002000 (.mtr 0x2000) ∧ codes 0x1700000000002000 (.mcfl 0x2000) ∧
    codes 0x1800000000002000 (.mcfr 0x2000) ∧ codes 0x1900000000002000 (.mcbl 0x2000) ∧
    codes 0x1A00000000002000 (.mcbr 0x2000) ∧ codes 0x1B00000000000000 .mstop ∧
    codes 0x1C00000000000000 .mcoast := by decide

theorem test_decode_button :
    codes 0x2010000000001000 (.bled 1 0x1000) ∧ codes 0x2130000000000001 (.bledb 3 true) ∧
    codes 0x2200000000006000 (.bledall 0x6000) ∧ codes 0x2300000000000001 (.bledallb true) ∧
    codes 0x2420000000000000 (.bhold 2) ∧ codes 0x2510000000000002 (.bsub 1 0x002) ∧
    codes 0x2600000000000002 (.bunsub 0 0x002) ∧ codes 0x2700000000000FFF (.back 0 0xFFF) ∧
    codes 0x280000000007A120 (.bblink 500000) := by decide

theorem test_decode_sn3218 :
    codes 0x3000000000000000 .snen ∧ codes 0x3100000000000000 .sndis ∧
    codes 0x3200000000000000 .snrst ∧ codes 0x330000000003FFFF (.snmask 0x3FFFF) ∧
    codes 0x3400000000000000 .snupd ∧ codes 0x3500000000000012 (.snout 18) ∧
    codes 0x3600000000000012 (.snoutr 18) ∧ codes 0x3700000000110013 (.stw 17 0x13) ∧
    codes 0x3800000000010000 (.str 1) := by decide

theorem test_decode_underlight :
    codes 0x4000000000000000 .uinit ∧ codes 0x4100000000000000 .ufini ∧
    codes 0x42210000012C0000 (.uset 2 true 0 300 0) ∧
    codes 0x4300000100020003 (.ufill false 1 2 3) ∧ codes 0x4411000000000000 (.uclr 1 true) ∧
    codes 0x4501000000000000 (.uclrall true) ∧ codes 0x4600000000000000 .ushow ∧
    codes 0x474000F040002000 (.uhsv 4 false 240 0x4000 0x2000) ∧
    codes 0x480100C820002000 (.ufillhsv true 200 0x2000 0x2000) := by decide

theorem test_decode_ultrasound :
    codes 0x50000000000000FF (.urd 255) ∧ codes 0x5100000000000000 .ucancel ∧
    codes 0x5200000000000000 .uget := by decide

/-- The words of V4 and V5 decode to nothing (30_encoding.md R96). -/
theorem test_decode_illegal_words :
    [0x0900000000000000, 0x1D00000000000000, 0xFF00000000000000, 0x1001000000000000,
     0x1200000000000001, 0x2500000000001000, 0x2130000000000002, 0x3300000000040000,
     0x3700000000000100].all (fun w => (decodeTableWord 64 w).isNone) = true := by decide

theorem test_register_numbers :
    numberOfReg (.dutyN 1) = 0x015 ∧ numberOfReg (.evcnt 2 1) = 0x067 ∧
    regOfNumber 0x067 = some (.evcnt 2 1) ∧ regOfNumber 0x014 = some (.dutyP 1) ∧
    regOfNumber 0x0B1 = some (.frame 17) ∧ regOfNumber 0x016 = none ∧
    regOfNumber 0x0B2 = none := by decide

/-- 30_encoding.md R98, R99: `BLEDALL 0.2` has H0 = 0x0CCD (V39). -/
theorem test_assembly :
    expandPseudo Config.standard (.bsub1 0 0 1) = .bsub 0 0x002 ∧
    expandPseudo Config.standard .urd = .urd 3 ∧
    expandPseudo Config.standard (.csrr (.speed 1)) = .rd 0x011 ∧ fracOf 1 5 = 0x0CCD ∧ fracOf (-1) 4 = 0xF000 ∧
    fracOf 2 1 = 0x7FFF ∧ fracOf (-3) 1 = 0x8000 := by decide

/-! ### One step of each command -/

/-- Reset, every bus write answered `ok`. -/
def ready : State :=
  { State.reset with env := { State.reset.env with answers := List.replicate 8 .ok } }

/-- The bus open, leaf operations able to fail, the first eight answered `ok`. -/
def leafy : State :=
  { ready with i2cOpen := true, cfg := { Config.standard with leafCanFail := true } }

/-- The same with leaf operation `k` failing. -/
def failing (k : Nat) : State :=
  { leafy with env := { leafy.env with answers := (List.replicate 8 .ok).set k .fail } }

/-- The state a step on the word `cw` reaches. -/
def sent (s : State) (cw : Nat) : State :=
  match step (s.withFetchWord 64 cw) with
  | .next t => t
  | .fault _ => s
  | .refused _ => s

/-- The response to the word `cw`. -/
def reply (s : State) (cw : Nat) : Option W64 := (sent s cw).env.responses.getLast?

/-- The bus writes the word `cw` adds. -/
def writes (s : State) (cw : Nat) : List (List Byte) :=
  ((sent s cw).trace.drop s.trace.length).map fun w => w.bytes

/-- Speeds and duties after the word `cw`, LEFT then RIGHT. -/
def motorsAfter (cw : Nat) : List W16 :=
  let m := (sent ready cw).motors
  [m.left.speed, m.left.dutyP, m.left.dutyN, m.right.speed, m.right.dutyP, m.right.dutyN]

theorem test_nop : reply ready 0x0000000000000000 = some 0 ∧
    (sent ready 0).cmdseq = 1 := by decide
theorem test_rd : reply ready 0x0100000000000000 = some 0x0000000054504301 ∧
    reply ready 0x0100000900000000 = some 0x0400000000000009 := by decide
theorem test_rd_speed : reply (sent ready 0x1400000000002000) 0x0100001000000000 =
    some 0x00000000FFFFE000 := by decide
theorem test_wr : (sent ready 0x020000220007A120).btnTune.dpwin = 500000 ∧
    reply ready 0x0200001000000001 = some 0x0400000000000010 := by decide
theorem test_srst : sent { leafy with cmdseq := 7, now := 9 } 0x0300000000000000 =
    { leafy with i2cOpen := false, env := { leafy.env with responses := [0] } } := by decide

theorem test_mset_clamps : motorsAfter 0x1000000000002000 = [0x2000, 0x4000, 0x2000, 0, 0, 0] ∧
    motorsAfter 0x1010000000008000 = [0, 0, 0, 0xC000, 0, 0x4000] := by decide
theorem test_mboth :
    motorsAfter 0x110000000000C000 = [0xC000, 0, 0x4000, 0xC000, 0, 0x4000] := by decide
theorem test_mdis :
    (sent (sent ready 0x1100000000003000) 0x1200000000000000).motors =
      ⟨⟨0x3000, 0, 0⟩, ⟨0x3000, 0, 0⟩⟩ ∧
    (sent (sent ready 0x1100000000003000) 0x1200000000000000).motorEn = false := by decide
theorem test_mfwd :
    motorsAfter 0x130000000000E000 = [0xE000, 0x2000, 0x4000, 0xE000, 0x2000, 0x4000] := by decide
theorem test_mbwd_does_not_wrap :
    motorsAfter 0x1400000000008000 = [0x4000, 0x4000, 0, 0x4000, 0x4000, 0] := by decide
theorem test_mtl :
    motorsAfter 0x1500000000002000 = [0xE000, 0x2000, 0x4000, 0x2000, 0x4000, 0x2000] := by decide
theorem test_mtr :
    motorsAfter 0x1600000000002000 = [0x2000, 0x4000, 0x2000, 0xE000, 0x2000, 0x4000] := by decide
theorem test_mcfl :
    motorsAfter 0x1700000000002000 = [0, 0x4000, 0, 0x2000, 0x4000, 0x2000] := by decide
theorem test_mcfr :
    motorsAfter 0x1800000000002000 = [0x2000, 0x4000, 0x2000, 0, 0x4000, 0] := by decide
theorem test_mcbl :
    motorsAfter 0x1900000000002000 = [0, 0x4000, 0, 0xE000, 0x2000, 0x4000] := by decide
theorem test_mcbr :
    motorsAfter 0x1A00000000002000 = [0xE000, 0x2000, 0x4000, 0, 0x4000, 0] := by decide
theorem test_mstop : motorsAfter 0x1B00000000000000 = [0, 0x4000, 0, 0, 0x4000, 0] := by decide
theorem test_mcoast :
    (sent (sent ready 0x1300000000004000) 0x1C00000000000000).motors =
      ⟨⟨0x4000, 0, 0⟩, ⟨0x4000, 0, 0⟩⟩ := by decide

theorem test_bled_clamps : (sent ready 0x2010000000006000).ledDuty = ⟨0, 0x4000, 0, 0⟩ ∧
    (sent ready 0x201000000000F000).ledDuty = ⟨0, 0, 0, 0⟩ := by decide
theorem test_bledb : (sent ready 0x2130000000000001).ledDuty = ⟨0, 0, 0, 0x4000⟩ := by decide
theorem test_bledall :
    (sent ready 0x2200000000000CCD).ledDuty = ⟨0x0CCD, 0x0CCD, 0x0CCD, 0x0CCD⟩ := by decide
theorem test_bledallb :
    (sent ready 0x2300000000000001).ledDuty = ⟨0x4000, 0x4000, 0x4000, 0x4000⟩ := by decide
theorem test_bhold_selector : reply ready 0x2400000000000000 = some 0 ∧
    reply ready 0x2440000000000000 = some 0x0100000000000004 := by decide
theorem test_bsub : reply ready 0x2520000000000FFF = some 0x0000000000000FFF ∧
    reply ready 0x2540000000000001 = some 0x0100000000000004 := by decide
/-- N_SUB 2: slot 1 is the last, RD of SUBMASK[2] finds no slot (log 20). -/
theorem test_bsub_follows_nSub :
    let s : State := { ready with
      cfg := { Config.standard with nSub := 2 }, subs := [⟨1, 0⟩, ⟨2, 0⟩] }
    reply s 0x2510000000000004 = some 0x006 ∧ reply s 0x2520000000000001 = some 0x0100000000000002 ∧
    reply s 0x0100005200000000 = some 0 := by decide
/-- V38: the pending bit goes with the subscription. -/
theorem test_bunsub :
    (sent { ready with subs := [⟨0x001, 0x001⟩, ⟨0x001, 0x001⟩, ⟨0, 0⟩, ⟨0, 0⟩] }
      0x2600000000000001).subs = [⟨0, 0⟩, ⟨0x001, 0x001⟩, ⟨0, 0⟩, ⟨0, 0⟩] := by decide
/-- V30: the answer is what was pending. -/
theorem test_back :
    reply { ready with subs := [⟨0x007, 0x003⟩, ⟨0, 0⟩, ⟨0, 0⟩, ⟨0, 0⟩] } 0x2700000000000FFF =
      some 0x003 := by decide
theorem test_bblink : (sent ready 0x2800000000000003).blinkTimer = 3 ∧
    reply (sent ready 0x2800000000000003) 0x0100000300000000 = some 0xC0 := by decide

theorem test_snen : writes leafy 0x3000000000000000 = [[0x00, 0x01]] ∧
    reply ready 0x3000000000000000 = some 0x0600000000000000 := by decide
theorem test_sndis : writes leafy 0x3100000000000000 = [[0x00, 0x00]] := by decide
theorem test_snrst : writes leafy 0x3200000000000000 = [[0x17, 0xFF]] := by decide
/-- V63. -/
theorem test_snmask : writes leafy 0x3300000000000041 = [[0x13, 0x01, 0x01, 0x00], [0x16, 0xFF]] ∧
    writes leafy 0x3300000000020000 = [[0x13, 0x00, 0x00, 0x20], [0x16, 0xFF]] := by decide
theorem test_snupd : writes leafy 0x3400000000000000 = [[0x16, 0xFF]] := by decide
/-- V62: STAGE[0] = FF, STAGE[1] = 80, STAGE[17] = 13. -/
def staged : State := { leafy with stage := [(0, 0xFF), (1, 0x80), (17, 0x13)] }
theorem test_snout : writes staged 0x3500000000000012 =
    [[0x01, 0xFF, 0x0F, 0, 0, 0, 0, 0, 0, 0, 0, 0, 0, 0, 0, 0, 0, 0, 0x01], [0x16, 0xFF]] := by decide
theorem test_snoutr : writes staged 0x3600000000000012 =
    [[0x01, 0xFF, 0x80, 0, 0, 0, 0, 0, 0, 0, 0, 0, 0, 0, 0, 0, 0, 0, 0x13], [0x16, 0xFF]] := by decide
theorem test_stw_keeps_the_order :
    (sent { leafy with stage := [(0, 0xFF), (17, 0x13)] } 0x3700000000010080).stage =
      staged.stage := by decide
theorem test_stw_of_zero : (sent staged 0x3700000000010000).stage = [(0, 0xFF), (17, 0x13)] ∧
    reply ready 0x3700000000200000 = some 0x0100000000000020 := by decide
theorem test_str : reply staged 0x3800000000010000 = some 0x80 := by decide

theorem test_uinit : writes ready 0x4000000000000000 =
    [[0x17, 0xFF], [0x13, 0x3F, 0x3F, 0x3F], [0x16, 0xFF], [0x00, 0x00]] ∧
    (sent ready 0x4000000000000000).i2cOpen = true := by decide
/-- V94. -/
theorem test_uinit_releases : reply { failing 1 with i2cOpen := false } 0x4000000000000000 =
    some 0x0200000000000001 ∧
    (sent { failing 1 with i2cOpen := false } 0x4000000000000000).i2cOpen = false := by decide
/-- V79: the first and the fourth write fail. -/
theorem test_ufini :
    let s := { failing 0 with env := { leafy.env with answers := [.fail, .ok, .ok, .fail] } }
    reply s 0x4100000000000000 = some 0x0200000000000009 ∧
    (sent s 0x4100000000000000).i2cOpen = false := by decide
/-- V72, V75. -/
theorem test_uset : writes leafy 0x421100FF00800000 =
    [[0x01, 0, 0, 0, 0xFF, 0x0F, 0, 0, 0, 0, 0, 0, 0, 0, 0, 0, 0, 0, 0], [0x16, 0xFF],
     [0x00, 0x01]] ∧
    reply leafy 0x420100000000FFFF = some 0x0100000000000002 := by decide
theorem test_ufill : (sent leafy 0x4300000100020003).frame.read 17 = 3 ∧
    (sent leafy 0x4300000100020003).frame.read 15 = 1 ∧
    writes leafy 0x4300000100020003 = [] := by decide
theorem test_uclr : (sent { leafy with frame := [(2, 7), (3, 0xFF), (4, 0x80)] }
    0x4411000000000000).frame = [(2, 7)] := by decide
theorem test_uclrall : (sent { leafy with frame := [(2, 7), (17, 1)] }
    0x4500000000000000).frame = [] := by decide
/-- P5: a failing write 2 keeps the two before it. -/
theorem test_ushow_fails : reply (failing 2) 0x4600000000000000 = some 0x0200000000000002 ∧
    (sent (failing 2) 0x4600000000000000).trace.map (fun w => w.answer) = [.ok, .ok, .fail] := by
  decide
/-- V81. -/
theorem test_uhsv : reply leafy 0x474000F040002000 = some 0x00000080 ∧
    (sent leafy 0x474000F040002000).frame = [(14, 0x80)] := by decide
/-- V82. -/
theorem test_ufillhsv : reply leafy 0x480100C820002000 = some 0x00406A80 ∧
    (writes leafy 0x480100C820002000).head? = some
      [0x01, 3, 9, 0x0F, 3, 9, 0x0F, 3, 9, 0x0F, 3, 9, 0x0F, 3, 9, 0x0F, 3, 9, 0x0F] := by decide
/-- V80, rows 11, 12, 14 and 17. -/
theorem test_hsv : hsvToRgb 0xFFFF 0x4000 0x4000 = (255, 0, 4) ∧
    hsvToRgb 810 0x4000 0x2000 = (64, 128, 0) ∧ hsvToRgb 210 0x1000 0x3000 = (143, 167, 191) ∧
    hsvToRgb 90 0x4E20 0xFFFB = (0, 0, 0) := by decide

/-- V53. -/
theorem test_urd_zero : (sent ready 0x5000000000000000).us.packed = 0x120 ∧
    reply (sent ready 0x5000000000000000) 0x5200000000000000 = some 0x0300000000000000 := by decide
/-- A read of three samples in its first trigger pulse (V55). -/
def reading : State :=
  { ready with trig := true,
               us := { Engine.initial with st := .trig, req := 3, idx := 1, ctr := 9, ocnt := 2 } }
theorem test_urd_busy : reply reading 0x5000000000000001 = some 0x0500000000000002 ∧
    reply reading 0x0200008000000005 = some 0x0500000000000002 := by decide
theorem test_ucancel : reply reading 0x5100000000000000 = some 1 ∧
    (sent reading 0x5100000000000000).us.packed = 0x130 ∧
    (sent reading 0x5100000000000000).trig = false := by decide
theorem test_uget : reply (sent reading 0x5100000000000000) 0x5200000000000000 =
    some 0x0900000000000001 ∧ reply ready 0x5200000000000000 = some 0x0A00000000000000 := by decide
/-- The spot values of section 5. -/
theorem test_distance : distance Config.standard 2430 3 = 910393 ∧
    distance Config.standard 1 1 = 1123 ∧ distance Config.standard 100000 1 = 112394240 := by decide

/-! ### One tick -/

def allUp : Quad Bool := ⟨true, true, true, true⟩
def aDown : Quad Bool := ⟨false, true, true, true⟩
/-- The tunables of V35, one step before the press at tick 10. -/
def beforePress : State :=
  { ready with now := 9, btnTune := ⟨3, 20, 10⟩, subs := [⟨0x007, 0⟩, ⟨0x004, 0⟩, ⟨0, 0⟩, ⟨0, 0⟩],
               channels := ⟨{ Channel.initial with dbcnt := 2 }, Channel.initial, Channel.initial,
                 Channel.initial⟩ }
theorem test_tick_press :
    let t := beforePress.tickStep ⟨aDown, false⟩
    (t.channels.get 0).packed = 0x44 ∧ (t.channels.get 0).dptimer = 20 ∧
    (t.channels.get 0).lastpress = 10 ∧ (t.slot 0).pend = 0x001 ∧
    (t.slot 1).pend = 0 := by decide
/-- V35, tick 33. -/
theorem test_tick_hold :
    let c : Channel := { Channel.initial with level := false, gst := .double, holdcnt := 9 }
    let t := ({ beforePress with channels := beforePress.channels.set 0 c } : State).tickStep
      ⟨aDown, false⟩
    (t.channels.get 0).packed = 0x1E ∧ (t.slot 1).pend = 0x004 := by decide
/-- V40, tick 9. -/
theorem test_tick_blink_ends :
    let s := { ready with blinkActive := true, ledDuty := ⟨0x1000, 0x4000, 0x4000, 0x4000⟩ }
    (s.tickStep ⟨allUp, false⟩).ledDuty = ⟨0, 0, 0, 0⟩ ∧
    (s.tickStep ⟨allUp, false⟩).statusByte = 0x80 := by decide
/-- V50, tick 3933. -/
def lastFall : State :=
  { ready with us := { Engine.initial with st := .waitFall, req := 3, idx := 3, cnt := 2,
                                           total := 1620, stopw := 999, scnt := 1299,
                                           eprev := true } }
theorem test_tick_read_finishes :
    let t := lastFall.tickStep ⟨allUp, false⟩
    t.us.total = 2430 ∧ t.us.dist = 0x000DE439 ∧ t.us.packed = 0x110 := by decide
/-- V59: the edge at the tick of the time-out wins. -/
theorem test_tick_edge_wins :
    let s := { ready with usTune := ⟨0, 5, 0, 0⟩,
                          us := { Engine.initial with st := .waitRise, req := 1, idx := 1, scnt := 4 } }
    (s.tickStep ⟨allUp, true⟩).us.st = .waitFall ∧ (s.tickStep ⟨allUp, false⟩).us.st = .idle := by
  decide

/-! ### Every statement's hypotheses can be met, each clause at the edge of its range -/

theorem leafy_answers : leafy.AnswersOk 8 := by unfold State.AnswersOk; decide
theorem leafy_leaves : leafy.LeavesOk 6 := fun _ k h => leafy_answers k (by omega)
theorem failing_fails : ∀ k < 6, (failing k).FailsAt k := by
  unfold State.FailsAt State.AnswersOk; decide
/-- The machine with an input waiting, and that input offered. -/
def offered (x : Input) (s : State) : State := { s with env := { s.env with pending := [x] } }
theorem offered_offers (x : Input) (s : State) :
    (offered x s).Offers x { s with env := { s.env with pending := [] } } := Or.inl ⟨[], rfl, rfl⟩

theorem test_witness_EncodeOfDecodeIsTheWord :
    decode 0x1010000000008000 = .ok (.mset 1 0x8000) := rfl
theorem test_witness_DecodeAcceptsExactlyTheTableRows :
    (⟨0x1000000000000000, 0xFF0FFFFFFFFF0000⟩ : OpcodeRow) ∈ opcodeTable ∧
    rowMatches ⟨0x1000000000000000, 0xFF0FFFFFFFFF0000⟩ 0x10F000000000FFFF = true ∧
    decode 0x0900000000000000 = .error (.unknownOpcode 0x09) := ⟨by decide, by decide, rfl⟩
theorem test_witness_StepRunsTheDecodedCommand :
    (offered (.command 0x1010000000008000) leafy).Offers (.command 0x1010000000008000) leafy ∧
    decode 0x1010000000008000 = .ok (.mset 1 0x8000) := ⟨offered_offers _ leafy, rfl⟩
theorem test_witness_StepRunsTicksAndAnswersIllegalWords :
    (offered (.tick ⟨aDown, true⟩) leafy).Offers (.tick ⟨aDown, true⟩) leafy ∧
    (offered (.command 0x2130000000000002) leafy).Offers (.command 0x2130000000000002) leafy ∧
    decode 0x2130000000000002 = .error (.reservedBits 0x21) :=
  ⟨offered_offers _ leafy, offered_offers _ leafy, rfl⟩
theorem test_witness_NopOnlyCounts :
    (offered (.command 1) leafy).Offers (.command 1) leafy ∧
    (1 : W64).extractLsb' 56 8 = (0 : BitVec 8) ∧ (1 : W64) ≠ 0 :=
  ⟨offered_offers _ leafy, by decide, by decide⟩
theorem test_witness_WriteSetsTheTunable :
    ready.err.fatal = false ∧ ready.us.st = .idle ∧ ready.btnEn = true ∧
    ({ ready with btnEn := false } : State).btnEn = false ∧ 1 < (2 : W32).toNat := by decide
theorem test_witness_ResetsRestoreTheResetValues :
    (offered .rst leafy).Offers .rst leafy := offered_offers _ leafy

theorem test_witness_SetSpeedDrivesTheMotors :
    leafy.err.fatal = false ∧ leafy.LeavesOk 6 ∧ (1 : BitVec 4).toNat < 2 :=
  ⟨rfl, leafy_leaves, by decide⟩
theorem test_witness_ManeuversSetTheirSpeeds : leafy.err.fatal = false ∧ leafy.LeavesOk 6 :=
  ⟨rfl, leafy_leaves⟩
theorem test_witness_DisableCoastsTheMotors : leafy.err.fatal = false ∧ leafy.LeavesOk 5 :=
  ⟨rfl, fun _ k h => leafy_answers k (by omega)⟩
theorem test_witness_DutyFollowsTheThreeLines :
    (-16384 : Int) ≤ 16384 ∧ Config.standard.brakeNegDuty.toNat ≤ 16384 := by decide
theorem test_witness_SpeedCommandsKeepTheMotorLaws :
    Instr.setsSpeed (.mtl 0x8000) ∧ leafy.LeavesOk 6 ∧
    ∃ t, exec (.mtl 0x8000) leafy = .next t ∧ t.motors.get 1 ≠ leafy.motors.get 1 := by
  refine ⟨by simp [Instr.setsSpeed], leafy_leaves, _, rfl, by decide⟩
/-- The last leaf operation of the longest command, and those of URD 0 and UCANCEL. -/
theorem test_witness_FailedMotorLeafStopsTheCommand :
    (∀ k < 6, (failing k).err.fatal = false ∧ (failing k).cfg.leafCanFail = true ∧
      (failing k).FailsAt k) ∧ (1 : BitVec 4).toNat < 2 ∧ (3 : BitVec 4).toNat < 4 ∧
    (failing 0).us.st = .idle ∧ ({ failing 0 with us := reading.us } : State).us.st ≠ .idle ∧
    ({ failing 0 with us := reading.us } : State).FailsAt 0 :=
  ⟨fun k h => ⟨rfl, rfl, failing_fails k h⟩, by decide, by decide, rfl, by decide,
    failing_fails 0 (by omega)⟩
theorem test_witness_OnlySpeedCommandsChangeTheSpeeds :
    ∃ t, step (ready.withFetchWord 64 0x1000000000002000) = .next t ∧
      (t.motors.get 0).speed ≠ (ready.motors.get 0).speed := ⟨_, rfl, by decide⟩

theorem test_witness_LedCommandsDriveTheLeds :
    leafy.err.fatal = false ∧ leafy.LeavesOk 4 ∧ (3 : BitVec 4).toNat < 4 :=
  ⟨rfl, fun _ k h => leafy_answers k (by omega), by decide⟩
theorem test_witness_SubscriptionCommandsChangeTheSlot :
    ready.err.fatal = false ∧ (3 : BitVec 4).toNat < ready.cfg.nSub ∧
    ready.subs.length = ready.cfg.nSub ∧ ready.cfg.nSub ≤ (4 : BitVec 4).toNat := by decide
theorem test_witness_HoldQueryReturnsTheFlag :
    ready.err.fatal = false ∧ (3 : BitVec 4).toNat < 4 ∧ 4 ≤ (4 : BitVec 4).toNat := by decide
theorem test_witness_OutOfRangeOperandsAreRejected :
    leafy.err.fatal = false ∧ leafy.i2cOpen = true ∧ 2 ≤ (2 : BitVec 4).toNat ∧
    4 ≤ (4 : BitVec 4).toNat ∧ leafy.cfg.nSub ≤ (4 : BitVec 4).toNat ∧ 1 < (2 : W32).toNat ∧
    leafy.cfg.stageSize ≤ (32 : W16).toNat ∧ (17 : W16).toNat ≠ 18 ∧
    6 ≤ (6 : BitVec 4).toNat ∧ (5 : BitVec 4).toNat < 6 ∧ (0xFFFF : W16).toInt < 0 ∧
    255 < (256 : W16).toInt ∧ ¬ ((255 : W16).toInt < 0 ∨ 255 < (255 : W16).toInt) := by decide
theorem test_witness_EmitNotifiesTheSubscribers :
    (beforePress.slot 1).mask.getLsbD (3 * 0 + EventKind.hold.index) = true := by decide
/-- Two ticks of disagreement do not change the level under BTN_DEBOUNCE 3, three do. -/
theorem test_witness_DebounceCountsConsecutiveTicks :
    let s : State := { ready with btnTune := ⟨3, 20, 10⟩ }
    s.btnEn = true ∧ (s.channels.get 0).dbcnt = 0 ∧
    (∀ x ∈ List.replicate 3 (⟨aDown, false⟩ : Sample), x.btn.get 0 ≠ (s.channels.get 0).level) ∧
    (List.replicate 2 (⟨aDown, false⟩ : Sample)).length < max s.btnTune.debounce.toNat 1 ∧
    (List.replicate 3 (⟨aDown, false⟩ : Sample)).length = max s.btnTune.debounce.toNat 1 ∧
    allUp.get 0 = (s.channels.get 0).level := by decide
/-- BTN_DEBOUNCE 3 with two ticks counted; an open window on its last tick, an expired one, and a
button that is down. -/
theorem test_witness_EdgesOfAButtonChannel :
    beforePress.btnEn = true ∧
    beforePress.btnTune.debounce.toNat ≤ (beforePress.channels.get 0).dbcnt.toNat + 1 ∧
    (let c : Channel := { Channel.initial with dparmed := true, dptimer := 1 }
     c.level = true ∧ (c.dparmed && decide (c.dptimer ≠ 0)) = true) ∧
    (let c : Channel := { Channel.initial with dparmed := true, dptimer := 0 }
     c.level = true ∧ (c.dparmed && decide (c.dptimer ≠ 0)) = false) ∧
    ({ Channel.initial with level := false, gst := .hold } : Channel).level = false := by decide
/-- A window with two ticks left: one quiet tick and a press inside it, two and a press outside. -/
theorem test_witness_DoublePressWindowIsInclusive :
    let s : State := { ready with
      btnTune := ⟨1, 20, 10⟩,
      channels := Quad.all { Channel.initial with dparmed := true, dptimer := 2 } }
    let quiet : Nat → List Sample := fun n => List.replicate n ⟨allUp, false⟩
    s.btnEn = true ∧ (s.channels.get 0).dparmed = true ∧ (s.channels.get 0).level = true ∧
    s.btnTune.debounce.toNat ≤ 1 ∧
    (∀ x ∈ quiet 2, x.btn.get 0 = (s.channels.get 0).level) ∧ aDown.get 0 = false ∧
    (quiet 1).length + 1 ≤ (s.channels.get 0).dptimer.toNat ∧
    (s.channels.get 0).dptimer.toNat < (quiet 2).length + 1 := by decide
theorem test_witness_HoldStartsOnceAtTheBound :
    let s : State := { ready with
      btnTune := ⟨1, 20, 3⟩,
      channels := Quad.all { Channel.initial with level := false, gst := .double } }
    let down : Nat → List Sample := fun n => List.replicate n ⟨aDown, false⟩
    s.btnEn = true ∧ (s.channels.get 0).level = false ∧ (s.channels.get 0).gst = .double ∧
    (s.channels.get 0).holdcnt = 0 ∧ (∀ x ∈ down 3, x.btn.get 0 = false) ∧
    (down 2).length < max s.btnTune.holdmin.toNat 1 ∧
    max s.btnTune.holdmin.toNat 1 ≤ (down 3).length := by decide
theorem test_witness_ButtonChannelsAreIndependent :
    let s' : State := { beforePress with
      channels := beforePress.channels.set 1 { Channel.initial with dbcnt := 2 } }
    beforePress.btnEn = s'.btnEn ∧ beforePress.btnTune = s'.btnTune ∧ beforePress.now = s'.now ∧
    beforePress.channels.get 0 = s'.channels.get 0 ∧ beforePress.channels ≠ s'.channels ∧
    aDown.get 0 = (⟨false, false, true, true⟩ : Quad Bool).get 0 ∧
    beforePress.evcnt.get 0 = s'.evcnt.get 0 ∧
    (beforePress.slot 0).mask.getLsbD (3 * 0 + 2) =
      (s'.slot 0).mask.getLsbD (3 * 0 + 2) := by decide
theorem test_witness_TickChangesOnlyTheAgentsState :
    ({ ready with btnEn := false } : State).btnEn = false ∧ ready.blinkActive = false ∧
    ready.us.st = .idle ∧ ready.cfg.leafCanFail = false := by decide
theorem test_witness_BlinkEndsAfterItsInterval :
    let s : State := { ready with blinkActive := true, blinkTimer := 3 }
    s.cfg.leafCanFail = false ∧ s.blinkActive = true ∧
    (List.replicate 3 (⟨allUp, false⟩ : Sample)).length ≤ s.blinkTimer.toNat ∧
    (List.replicate 4 (⟨allUp, false⟩ : Sample)).length = s.blinkTimer.toNat + 1 := by decide
theorem test_witness_TickLeafFailuresAreRecorded :
    let s : State := { failing 3 with blinkActive := true }
    s.cfg.leafCanFail = true ∧ s.blinkActive = true ∧ s.blinkTimer = 0 ∧
    s.answerAt (s.env.asked + 3) = .fail ∧
    ({ failing 0 with us := reading.us } : State).us.st ≠ .idle ∧
    (failing 0).answerAt (failing 0).env.asked = .fail := by decide

theorem test_witness_SingleShotCommandsMakeOneWrite :
    leafy.err.fatal = false ∧ leafy.i2cOpen = true ∧ leafy.AnswersOk 1 ∧ (failing 0).FailsAt 0 :=
  ⟨rfl, rfl, fun k h => leafy_answers k (by omega), failing_fails 0 (by omega)⟩
theorem test_witness_ChannelMaskIsSentInThreeGroups :
    (0x3300000000040000 : W64).extractLsb' 56 8 = (0x33 : BitVec 8) ∧
    (0x3300000000040000 : W64).extractLsb' 18 14 ≠ (0 : BitVec 14) ∧
    (0x20 : Byte).toNat = (0x20FC1 : BitVec 18).toNat / 4096 ∧
    (0x3F : Byte).toNat = (0x20FC1 : BitVec 18).toNat / 64 % 64 ∧
    (0x01 : Byte).toNat = (0x20FC1 : BitVec 18).toNat % 64 ∧ leafy.AnswersOk 2 ∧
    (failing 1).FailsAt 1 :=
  ⟨by decide, by decide, by decide, by decide, by decide,
    fun k h => leafy_answers k (by omega), failing_fails 1 (by omega)⟩
theorem test_witness_OutputCommandsSendEighteenBytes :
    staged.err.fatal = false ∧ staged.i2cOpen = true ∧ staged.AnswersOk 3 ∧
    (failing 2).FailsAt 2 :=
  ⟨rfl, rfl, fun k h => leafy_answers k (by omega), failing_fails 2 (by omega)⟩
theorem test_witness_StageIsWrittenAndReadByCell :
    ready.err.fatal = false ∧ (31 : W16).toNat < ready.cfg.stageSize := by decide
theorem test_witness_ConstructionOpensTheBusOrReleasesIt :
    leafy.err.fatal = false ∧ leafy.i2cOpen = true ∧ ready.i2cOpen = false ∧
    leafy.AnswersOk 4 ∧ (failing 3).FailsAt 3 :=
  ⟨rfl, rfl, rfl, fun k h => leafy_answers k (by omega), failing_fails 3 (by omega)⟩
theorem test_witness_TeardownAttemptsEveryWrite :
    leafy.err.fatal = false ∧ ready.i2cOpen = false ∧ (failing 3).i2cOpen = true ∧
    (failing 3).answerAt ((failing 3).env.asked + 3) = .fail ∧
    (failing 3).answerAt (failing 3).env.asked = .ok := by decide
theorem test_witness_SettersWriteTheirLightsAndShow :
    leafy.err.fatal = false ∧ leafy.i2cOpen = true ∧ leafy.AnswersOk 3 ∧
    (5 : BitVec 4).toNat < 6 :=
  ⟨rfl, rfl, fun k h => leafy_answers k (by omega), by decide⟩
theorem test_witness_HsvSettersWriteTheTriple :
    leafy.err.fatal = false ∧ leafy.i2cOpen = true ∧ leafy.AnswersOk 3 ∧
    (5 : BitVec 4).toNat < 6 := test_witness_SettersWriteTheirLightsAndShow
/-- Hues of all six sectors, the last one the greatest. -/
theorem test_witness_HsvIsTheRationalFormula :
    (360 : W16).toInt % 360 / 60 = 0 ∧ (119 : W16).toInt % 360 / 60 = 1 ∧
    (120 : W16).toInt % 360 / 60 = 2 ∧ (180 : W16).toInt % 360 / 60 = 3 ∧
    (0xFF88 : W16).toInt % 360 / 60 = 4 ∧ (0xFFFF : W16).toInt % 360 / 60 = 5 := by decide
theorem test_witness_FailedShowKeepsTheFrame :
    ∀ k < 3, (failing k).err.fatal = false ∧ (failing k).i2cOpen = true ∧
      (failing k).FailsAt k := fun k h => ⟨rfl, rfl, failing_fails k (by omega)⟩

theorem test_witness_ReadStartsOrFinishesAtOnce :
    leafy.err.fatal = false ∧ leafy.us.st = .idle ∧ (1 : BitVec 8) ≠ 0 ∧ leafy.LeavesOk 1 :=
  ⟨rfl, rfl, by decide, fun _ k h => leafy_answers k (by omega)⟩
/-- Each outcome of a finished read. -/
theorem test_witness_GetReportsTheOutcome : ∀ r ∈ [UsResult.ok, .timeout, .cancelled, .transport,
    .none], let s : State := { ready with us := { Engine.initial with done := true, res := r } }
    s.err.fatal = false ∧ s.us.st = .idle ∧ s.us.done = true ∧ s.us.res = r := by decide
theorem test_witness_CancelStopsTheRead :
    reading.err.fatal = false ∧ reading.us.st ≠ .idle ∧ ready.us.st = .idle ∧
    ({ leafy with us := reading.us } : State).LeavesOk 1 :=
  ⟨rfl, by decide, rfl, fun _ k h => leafy_answers k (by omega)⟩
/-- A gap that has run out. -/
def gapOver : State := { ready with us := { Engine.initial with st := .gap, req := 1 } }
/-- A gap with two ticks left: its last tick, the first and the last tick of the pulse, its end. -/
theorem test_witness_TriggerPulseLastsItsTicks :
    let s : State := { gapOver with us := { gapOver.us with ctr := 2 } }
    let n : Nat → Nat := fun k => (List.replicate k (⟨allUp, true⟩ : Sample)).length + 1
    s.cfg.leafCanFail = false ∧ s.cfg.trigTicks ≠ 0 ∧ s.us.st = .gap ∧ s.trig = false ∧
    s.usTune.overall = 0 ∧ n 1 ≤ s.us.ctr.toNat ∧
    (s.us.ctr.toNat + 1 ≤ n 2 ∧ n 2 ≤ s.us.ctr.toNat + s.cfg.trigTicks.toNat) ∧
    n 11 ≤ s.us.ctr.toNat + s.cfg.trigTicks.toNat ∧
    n 12 = s.us.ctr.toNat + 1 + s.cfg.trigTicks.toNat := by decide
/-- US_SAMPLE_TO 5 with four ticks waited and with three; US_OVERALL 9 with seven counted. -/
theorem test_witness_WaitRiseTick :
    let s : Nat → State := fun n => { leafy with
      usTune := ⟨0, 5, 9, 0⟩,
      us := { Engine.initial with st := .waitRise, scnt := BitVec.ofNat 32 n, ocnt := 7 } }
    (s 4).us.st = .waitRise ∧ (s 4).us.eprev = false ∧
    (countUp (s 4).us.ocnt).toNat < (s 4).usTune.overall.toNat ∧
    (s 4).usTune.sampleTo.toNat ≤ (countUp (s 4).us.scnt).toNat ∧
    (countUp (s 3).us.scnt).toNat < (s 3).usTune.sampleTo.toNat ∧ leafy.LeavesOk 1 := by
  exact ⟨by decide, by decide, by decide, by decide, by decide,
    fun _ k h => leafy_answers k (by omega)⟩
theorem test_witness_WaitFallTick :
    let s : Nat → State := fun n => { leafy with
      usTune := ⟨190, 5, 0, 0⟩,
      us := { Engine.initial with st := .waitFall, eprev := true, scnt := BitVec.ofNat 32 n } }
    (s 4).us.st = .waitFall ∧ (s 4).us.eprev = true ∧ (s 4).usTune.overall = 0 ∧
    (s 4).usTune.sampleTo.toNat ≤ (countUp (s 4).us.scnt).toNat ∧
    (countUp (s 3).us.scnt).toNat < (s 3).usTune.sampleTo.toNat ∧ leafy.LeavesOk 1 := by
  exact ⟨by decide, by decide, by decide, by decide, by decide,
    fun _ k h => leafy_answers k (by omega)⟩
theorem test_witness_OverallTimeoutEndsTheRead :
    let s : State := { gapOver with usTune := ⟨190, 100000, 2, 0⟩ }
    s.cfg.leafCanFail = false ∧ s.us.st ≠ .idle ∧ s.us.ocnt = 0 ∧ s.usTune.overall ≠ 0 ∧
    (List.replicate 2 (⟨allUp, true⟩ : Sample)).length = s.usTune.overall.toNat := by decide
theorem test_witness_DistanceIsTheFlooredQuotient :
    0 < Config.standard.tickHz ∧ 0 < Config.standard.sosDen ∧ 1 ≤ 1 := by decide
/-- US_SAMPLE_TO 0, where a cycle takes one tick more than the budget says (log 11). -/
theorem test_witness_EveryReadEndsWithinItsBound :
    let s : State := { gapOver with usTune := ⟨190, 0, 0, 0⟩ }
    s.cfg.leafCanFail = false ∧ s.cfg.trigTicks ≠ 0 ∧ s.us.st = .gap ∧ s.us.ctr = 0 ∧
    s.us.idx = 0 ∧ s.us.req ≠ 0 ∧ s.usTune.overall = 0 ∧
    s.us.req.toNat * (1 + s.usTune.gap.toNat + s.cfg.trigTicks.toNat +
      max s.usTune.sampleTo.toNat 1 + 1) ≤
      (List.replicate 13 (⟨allUp, true⟩ : Sample)).length := by decide

theorem test_witness_FatalRefusesAllButThreeCommands :
    ({ ready with err := { ready.err with fatal := true } } : State).err.fatal = true ∧
    ¬ Instr.fatalExempt .mdis ∧ Instr.wellFormed .mdis = true ∧ ready.cfg.leafCanFail = false :=
  ⟨rfl, by simp [Instr.fatalExempt], rfl, rfl⟩
theorem test_witness_StateChecksRefuseTheCommand :
    Instr.needsBus .ushow ∧ ready.i2cOpen = false ∧ leafy.i2cOpen = true ∧
    Instr.needsIdle (.wr 0x083 0) ∧ reading.us.st ≠ .idle ∧ ready.us.st = .idle ∧
    ready.us.done = false ∧ ready.err.fatal = false :=
  ⟨by simp [Instr.needsBus], rfl, rfl, by simp [Instr.needsIdle], by decide, rfl, rfl, rfl⟩
theorem test_witness_RejectedCommandChangesOnlyTheRecord :
    (∃ t, exec (.mset 2 0) ready = .next t ∧
      t.env.responses = ready.env.responses ++ [0x0100000000000002] ∧
      statusField 0x0100000000000002 ≠ 0x00 ∧ statusField 0x0100000000000002 ≠ 0x02) ∧
    ∃ t, exec .uget ready = .next t ∧
      t.env.responses = ready.env.responses ++ [0x0A00000000000000] ∧
      statusField 0x0A00000000000000 ≠ 0x00 ∧ statusField 0x0A00000000000000 ≠ 0x02 :=
  ⟨⟨_, rfl, by decide, by decide, by decide⟩, _, rfl, by decide, by decide, by decide⟩
theorem test_witness_InterruptLinesFallOnlyOnTheirCommands :
    let s : State := { ready with us := { Engine.initial with done := true, res := .timeout },
                                  subs := [⟨1, 1⟩, ⟨0, 0⟩, ⟨0, 0⟩, ⟨0, 0⟩],
                                  err := { ready.err with fatal := true } }
    (∃ t, step (s.withFetchWord 64 0x0300000000000000) = .next t ∧ s.irqFatal = true ∧
      t.irqFatal = false) ∧
    (∃ t, step (({ s with err := ready.err } : State).withFetchWord 64 0x5200000000000000) =
      .next t ∧ s.irqUs = true ∧ t.irqUs = false) ∧
    ∃ t, step (({ s with err := ready.err } : State).withFetchWord 64 0x2700000000000FFF) =
      .next t ∧ s.irqSub 0 = true ∧ t.irqSub 0 = false :=
  ⟨⟨_, rfl, by decide, by decide⟩, ⟨_, rfl, by decide, by decide⟩, _, rfl, by decide, by decide⟩
theorem test_witness_BusTraceOnlyGrowsByTheSixForms :
    ∃ t, step (leafy.withFetchWord 64 0x3300000000000041) = .next t ∧ t.trace.length = 2 :=
  ⟨_, rfl, by decide⟩
theorem reading_inv : reading.Inv where
  cfg := by decide
  frame := by decide
  stage := by decide
  motors := by decide
  channels := by decide
  leds := by decide
  blink := by decide
  slotCount := by decide
  subs := by
    intro i
    match i with
    | 0 => decide
    | 1 => decide
    | 2 => decide
    | 3 => decide
    | _ + 4 => exact (by decide : Subscriber.Inv ⟨0, 0⟩)
  trace := by intro w h; cases h
  engine := by decide
  trigLine := by decide
  transportRead := by decide
  transportError := by decide
theorem test_witness_StepKeepsTheInvariant :
    (reading.withFetchWord 64 0x5100000000000000).Inv ∧
    ∃ t, step (reading.withFetchWord 64 0x5100000000000000) = .next t :=
  ⟨⟨reading_inv.cfg, reading_inv.frame, reading_inv.stage, reading_inv.motors,
    reading_inv.channels, reading_inv.leds, reading_inv.blink,
    reading_inv.slotCount, reading_inv.subs,
    reading_inv.trace, reading_inv.engine, reading_inv.trigLine, reading_inv.transportRead,
    reading_inv.transportError⟩, _, rfl⟩

end Sys2Proof.Machine.Tests
end

/-! SUPPORT. Reading registers (45_system.md R301): the register map takes every number of
10_state.md R22 back to its register, RD of a mapped number answers that register and only counts,
and what the packed register STATUS holds in each bit. Settles the statements O8 and O9. -/

namespace Sys2Proof

/-! ### The register map -/

/-- The `i`-th number of a run is the run's `i`-th register. -/
theorem regRun_inside {lo count : Nat} (reg : Fin count → Reg) (i : Fin count) :
    regRun lo count reg (lo + i) = some (reg i) := by
  have hi : lo ≤ lo + i.val ∧ lo + i.val < lo + count := ⟨by omega, by omega⟩
  simp only [regRun, dif_pos hi, Nat.add_sub_cancel_left]

/-- A number past the end of a run is not in it. -/
theorem regRun_above {lo count n : Nat} (reg : Fin count → Reg) (h : lo + count ≤ n) :
    regRun lo count reg n = none :=
  dif_neg (by omega)

/-- GAMMA is the last run of the map, so its numbers pass every other one. -/
theorem regOfNumber_gamma (i : Fin 256) :
    regOfNumber (BitVec.ofNat 16 (0x100 + i)) = some (.gamma i) := by
  have number : (BitVec.ofNat 16 (0x100 + i)).toNat = 0x100 + i := by
    rw [BitVec.toNat_ofNat, Nat.mod_eq_of_lt (by omega)]
  unfold regOfNumber
  rw [number]
  split
  case h_29 =>
    simp (disch := omega) only [List.findSome?_cons, id, regRun_above, regRun_inside]
  all_goals omega

/-- The register map reads back every register's number (10_state.md R22). -/
theorem regOfNumber_numberOfReg (r : Reg) : regOfNumber (numberOfReg r) = some r := by
  cases r with
  | id | cmdseq | now | status | lasterr | errseq | errcmdHi | errcmdLo | errinfo => rfl
  | btnEn | btnDebounce | btnDpwin | btnHoldmin | blinkTimer => rfl
  | usOffset | usSampleTo | usOverall | usGap => rfl
  | usState | usDist | usTotal | usCnt | usReq | usIdx | usStopw | usScnt | usOcnt | usCtr => rfl
  | speed m | dutyP m | dutyN m => revert m; decide
  | ledDuty b | btnState b | lastpress b | dptimer b | holdcnt b | dbcnt b => revert b; decide
  | submask i | pend i => revert i; decide
  | evcnt b k => revert b k; decide
  | frame i => revert i; decide
  | gamma i => exact regOfNumber_gamma i

end Sys2Proof

namespace Sys2Proof.Machine

/-! ### RD of a mapped register -/

/-- RD of a mapped number passes its one check, answers the register and does nothing else: no
check on FATAL, the bus or the engine (45_system.md R301, 60_exceptions.md R332). -/
theorem exec_rd_mapped {number : W16} {r : Reg} (h : regOfNumber number = some r) (s : State) :
    exec (.rd number) s = .next (s.afterOk (s.regRead r)) := by
  have admitted : firstFailure [registerExists number] s = none :=
    firstFailure_cons_none (by simp only [registerExists, h])
  show execRd number s = _
  rw [execRd, command_admitted admitted]
  simp only [h, Run.answer_none, Run.retire_none]

/-- RD of a register by its number. -/
theorem exec_rd_numberOfReg (s : State) (r : Reg) :
    exec (.rd (numberOfReg r)) s = .next (s.afterOk (s.regRead r)) :=
  exec_rd_mapped (regOfNumber_numberOfReg r) s

/-! ### Values of one bit and of STATUS -/

/-- BTN_EN reads 1 or 0. -/
theorem regRead_btnEn (s : State) : s.regRead .btnEn = if s.btnEn then 1 else 0 := by
  show zext32 (BitVec.ofBool s.btnEn) = _
  cases s.btnEn <;> rfl

/-- US_BUSY says that the engine is not idle. -/
theorem State.usBusy_iff (s : State) : s.usBusy = true ↔ s.us.st ≠ .idle := by
  simp only [State.usBusy, bne_iff_ne]

/-- STATUS is a byte. -/
theorem regRead_status_lt (s : State) : (s.regRead .status).toNat < 256 := by
  show (s.statusByte.setWidth 32).toNat < 2 ^ 8
  rw [BitVec.toNat_setWidth_of_le (by decide)]
  exact s.statusByte.isLt

/-- The zero-extension of RD keeps the bits of the byte. -/
theorem regRead_status_getLsbD (s : State) {i : Nat} (h : i < 8) :
    (s.regRead .status).getLsbD i = s.statusByte.getLsbD i := by
  have inWord : i < 32 := by omega
  simp only [State.regRead, zext32, BitVec.getLsbD_setWidth, inWord, decide_true, Bool.true_and]

/-- STATUS has FATAL in bit 0, and so on up to BTN_EN in bit 7 (10_state.md R29). -/
theorem State.statusByte_bits (s : State) :
    s.statusByte.getLsbD 0 = s.err.fatal ∧ s.statusByte.getLsbD 1 = s.i2cOpen ∧
    s.statusByte.getLsbD 2 = s.motorEn ∧ s.statusByte.getLsbD 3 = s.trig ∧
    s.statusByte.getLsbD 4 = s.usBusy ∧ s.statusByte.getLsbD 5 = s.us.done ∧
    s.statusByte.getLsbD 6 = s.blinkActive ∧ s.statusByte.getLsbD 7 = s.btnEn := by
  refine ⟨?_, ?_, ?_, ?_, ?_, ?_, ?_, ?_⟩ <;>
    simp only [State.statusByte, BitVec.getLsbD_append, BitVec.getLsbD_ofBool] <;> simp

/-! ### The statements -/

/-- Settles O9: RD 0x003 answers the status byte, whose bits are `State.statusByte_bits`. -/
theorem statusReadsTheFlags : Obligations.StatusReadsTheFlags := by
  intro s
  obtain ⟨fatal, i2cOpen, motorEn, trig, usBusy, done, blinkActive, btnEn⟩ := s.statusByte_bits
  refine ⟨s.regRead .status, exec_rd_numberOfReg s .status, regRead_status_lt s, ?_⟩
  simp (disch := decide) only [regRead_status_getLsbD]
  exact ⟨fatal, i2cOpen, motorEn, trig, usBusy ▸ s.usBusy_iff, done, blinkActive, btnEn⟩

/-- Settles O8: each number is that of a register (`exec_rd_numberOfReg`); only BTN_EN's value and
the numbers of EVCNT are written in another form than the model's. -/
theorem readReturnsTheRegister : Obligations.ReadReturnsTheRegister := by
  refine ⟨rfl, rfl, rfl, rfl, fun s => ?_⟩
  intro reads
  have rd (r : Reg) := exec_rd_numberOfReg s r
  have rdCount (b : Fin 4) (k : Fin 3) (n : Nat) (hn : 0x060 + 3 * b.val + k.val = n) :
      reads n ((s.evcnt.get b).count k) := hn ▸ rd (.evcnt b k)
  refine ⟨rd .id, rd .cmdseq, rd .now, rd .lasterr, rd .errseq, rd .errcmdHi, rd .errcmdLo,
    rd .errinfo, fun m => ⟨rd (.speed m), rd (.dutyP m), rd (.dutyN m)⟩,
    regRead_btnEn s ▸ rd .btnEn, rd .btnDebounce, rd .btnDpwin, rd .btnHoldmin,
    rd .blinkTimer, ?buttons, rd .usOffset, rd .usSampleTo, rd .usOverall, rd .usGap, rd .usState,
    rd .usDist, rd .usTotal, rd .usCnt, rd .usReq, rd .usIdx, rd .usStopw, rd .usScnt, rd .usOcnt,
    rd .usCtr, fun i => rd (.frame i), fun i => rd (.gamma i)⟩
  case buttons =>
    exact fun b => ⟨rd (.ledDuty b), rd (.btnState b), rd (.lastpress b), rd (.dptimer b),
      rd (.holdcnt b), rd (.dbcnt b), rd (.submask b), rd (.pend b),
      rdCount b 0 _ rfl, rdCount b 1 _ (Nat.add_right_comm ..),
      rdCount b 2 _ (Nat.add_right_comm ..)⟩

end Sys2Proof.Machine

/-! SUPPORT. The motor commands (40_motor.md): the pair of duties of a clamped speed in its three
lines (R122), and the maneuvers that set both speeds (R126 to R134), each with its word. Settles the
statements O14 and O16. -/

namespace Sys2Proof.Machine

/-! ### The pair of duties -/

/-- ONE as an integer (00_scope.md R5). -/
theorem ONE_cast : (ONE : Int) = 16384 := rfl

/-- A duty in 0..ONE fits its 16 bits. -/
theorem dutyOf_toNat {d : Nat} (h : d ≤ ONE) : (dutyOf d).toNat = d :=
  Nat.mod_eq_of_lt (Nat.lt_of_le_of_lt h (by decide))

/-- A duty computed over the integers, in 0..ONE, is not changed by narrowing it. -/
theorem dutyOf_int {x : Int} (h0 : 0 ≤ x) (h1 : x ≤ 16384) :
    ((dutyOf x.toNat).toNat : Int) = x := by
  have inRange : x.toNat ≤ ONE := Int.toNat_le.mpr h1
  rw [dutyOf_toNat inRange, Int.toNat_of_nonneg h0]

/-- The line c > 0 of the mapping (40_motor.md R122). -/
theorem dutyPair_of_pos (cfg : Config) {c : Int} (h0 : 0 < c) (h1 : c ≤ 16384) :
    ((dutyPair cfg c).1.toNat : Int) = 16384 ∧
      ((dutyPair cfg c).2.toNat : Int) = 16384 - c := by
  rw [dutyPair, if_pos h0, ONE_cast]
  exact ⟨rfl, dutyOf_int (by omega) (by omega)⟩

/-- The line c < 0 of the mapping (40_motor.md R122). -/
theorem dutyPair_of_neg (cfg : Config) {c : Int} (h0 : c < 0) (h1 : -16384 ≤ c) :
    ((dutyPair cfg c).1.toNat : Int) = 16384 + c ∧
      ((dutyPair cfg c).2.toNat : Int) = 16384 := by
  rw [dutyPair, if_neg (by omega), if_pos h0, ONE_cast]
  exact ⟨dutyOf_int (by omega) (by omega), rfl⟩

/-- The line c = 0 of the mapping, the brake (40_motor.md R122). -/
theorem dutyPair_zero (cfg : Config) : dutyPair cfg 0 = (0x4000, cfg.brakeNegDuty) := rfl

/-- Settles O16: one line of the mapping for each sign of the speed; the boundary values are
evaluated. -/
theorem dutyFollowsTheThreeLines : Obligations.DutyFollowsTheThreeLines := by
  refine ⟨fun cfg c low high => ?_, rfl, rfl, rfl, rfl, rfl, rfl⟩
  intro p n
  rcases lt_trichotomy c 0 with neg | rfl | pos
  · obtain ⟨hp, hn⟩ : p = 16384 + c ∧ n = 16384 := dutyPair_of_neg cfg neg low
    exact ⟨by omega, fun _ => ⟨hp, hn⟩, by omega, by omega⟩
  · have hp : p = 16384 := rfl
    have hn : n = cfg.brakeNegDuty.toNat := rfl
    exact ⟨by omega, by omega, fun _ => ⟨hp, hn⟩, by omega⟩
  · obtain ⟨hp, hn⟩ : p = 16384 ∧ n = 16384 - c := dutyPair_of_pos cfg pos high
    exact ⟨fun _ => ⟨hp, hn⟩, by omega, by omega, by omega⟩

/-! ### The maneuvers -/

/-- In a word of format S or Z the 40 bits between the opcode and the operand are zero
(30_encoding.md R92). -/
theorem pack_operandOnly (opc : BitVec 8) (h0 : W16) :
    pack opc 0 0 0 0 h0 = opc ++ (0 : BitVec 40) ++ h0 := by
  have middle : opc ++ (0 : BitVec 4) ++ (0 : BitVec 4) ++ (0 : W16) ++ (0 : W16) =
      opc ++ (0 : BitVec 40) := by
    apply BitVec.eq_of_toNat_eq
    simp only [BitVec.toNat_append, BitVec.toNat_zero, BitVec.ofNat_eq_ofNat, Nat.or_zero,
      ← Nat.shiftLeft_add]
  exact congrArg (· ++ h0) middle

/-- A command that only sets the two speeds, admitted and with its six leaf operations answered ok,
drives both motors and answers OK with value 0 (40_motor.md R120, R121, R137). -/
theorem command_setSpeeds {s : State} (hf : s.err.fatal = false) (hl : s.LeavesOk 6) (i : Instr)
    (left right : Int) :
    command i [notFatal] (fun r => r.setSpeeds left right) s =
      .next ((({ s with motorEn := true, motors := ⟨motorAt s.cfg left, motorAt s.cfg right⟩ } :
        State).leavesMade 6).afterOk 0) := by
  have admitted : firstFailure [notFatal] s = none := firstFailure_cons_none (notFatal_none hf)
  rw [command_admitted admitted, Run.setSpeeds_ok s 0 0 left right hl, Run.retire_none]

/-- Settles O14: every maneuver is `command_setSpeeds` at its own two speeds, and its word is
`pack_operandOnly` at its opcode. -/
theorem maneuversSetTheirSpeeds : Obligations.ManeuversSetTheirSpeeds := by
  intro s v hf hl drives
  have drives_of (i : Instr) (opc : BitVec 8) (h0 : W16) (l r : Int)
      (word : encode i = pack opc 0 0 0 0 h0)
      (body : exec i s = command i [notFatal] (fun run => run.setSpeeds l r) s) :
      drives i opc h0 l r :=
    ⟨word.trans (pack_operandOnly opc h0), body.trans (command_setSpeeds hf hl i l r)⟩
  exact ⟨drives_of (.mfwd v) _ _ _ _ rfl rfl, drives_of (.mbwd v) _ _ _ _ rfl rfl,
    drives_of (.mtl v) _ _ _ _ rfl rfl, drives_of (.mtr v) _ _ _ _ rfl rfl,
    drives_of (.mcfl v) _ _ _ _ rfl rfl, drives_of (.mcfr v) _ _ _ _ rfl rfl,
    drives_of (.mcbl v) _ _ _ _ rfl rfl, drives_of (.mcbr v) _ _ _ _ rfl rfl,
    drives_of .mstop _ _ _ _ rfl rfl⟩

end Sys2Proof.Machine

/-! SUPPORT. Buttons: BHOLD (41_button.md R175), the commands of the subscriber slots (R172 to R174)
and the notify step (R171). Settles the statements O21, O22 and O24. -/

namespace Sys2Proof.Machine

/-! ### Words -/

/-- In a word of format A0 the 52 bits below the selector are zero (30_encoding.md R92). -/
theorem pack_selectorOnly (opc : BitVec 8) (a : BitVec 4) :
    pack opc a 0 0 0 0 = opc ++ a ++ (0 : BitVec 52) := by
  apply BitVec.eq_of_toNat_eq
  simp only [pack, BitVec.toNat_append, BitVec.toNat_zero, BitVec.ofNat_eq_ofNat, Nat.or_zero,
    ← Nat.shiftLeft_add]

/-- In a word of format AM the 40 bits between the selector and the mask are zero
(30_encoding.md R92). -/
theorem pack_selectorMask (opc : BitVec 8) (a : BitVec 4) (m : BitVec 12) :
    pack opc a 0 0 0 (m.setWidth 16) = opc ++ a ++ (0 : BitVec 40) ++ m := by
  have fits : m.toNat < 2 ^ 16 := Nat.lt_trans m.isLt (by decide)
  apply BitVec.eq_of_toNat_eq
  simp only [pack, BitVec.toNat_append, BitVec.toNat_zero, BitVec.ofNat_eq_ofNat, Nat.or_zero,
    BitVec.toNat_setWidth, Nat.mod_eq_of_lt fits, ← Nat.shiftLeft_add]

/-! ### Selectors of an admitted command -/

/-- With FATAL = 0 a command whose only check is that one runs its pseudocode (41_button.md R151). -/
theorem command_notFatal {s : State} (hf : s.err.fatal = false) (i : Instr) (body : Run → Run) :
    command i [notFatal] body s = .next ((body ⟨s, 0, none, 0⟩).retire (encode i)) :=
  command_admitted (firstFailure_cons_none (notFatal_none hf))

/-- A selector below the bound goes on with its index. -/
theorem Run.withSelector_ok (s : State) (k : Nat) (v : W32) {n : Nat} {sel : BitVec 4} (info : W32)
    (g : Fin n → Run → Run) (h : sel.toNat < n) :
    Run.withSelector ⟨s, k, none, v⟩ n sel info g = g ⟨sel.toNat, h⟩ ⟨s, k, none, v⟩ := by
  simp only [Run.withSelector, selector_some h, Run.andThen_none]

/-- A selector at the bound or above raises InvalidInput (30_encoding.md R96 (d)). -/
theorem Run.withSelector_out (s : State) (k : Nat) (v : W32) {n : Nat} {sel : BitVec 4}
    (info : W32) (g : Fin n → Run → Run) (h : n ≤ sel.toNat) :
    Run.withSelector ⟨s, k, none, v⟩ n sel info g = ⟨s, k, some ⟨.invalidInput, info⟩, v⟩ := by
  simp only [Run.withSelector, selector_none h, Run.raise_none]

/-! ### BHOLD -/

/-- A flag as a response value is 0 or 1. -/
theorem zext32_ofBool (f : Bool) : zext32 (BitVec.ofBool f) = if f then 1 else 0 := by
  cases f <;> rfl

/-- Settles O22: the word is `pack_selectorOnly`; a button in range is answered its flag, and
another is refused by its selector. -/
theorem holdQueryReturnsTheFlag : Obligations.HoldQueryReturnsTheFlag := by
  refine ⟨rfl, fun s b hf => ⟨pack_selectorOnly 0x24 b, fun h => ?inRange, fun h => ?outOfRange⟩⟩
  case inRange =>
    show execBhold b s = _
    rw [execBhold, command_notFatal hf, Run.withSelector_ok s 0 0 _ _ h, Run.answer_none,
      Run.retire_none, zext32_ofBool]
  case outOfRange =>
    show execBhold b s = _
    rw [execBhold, command_notFatal hf, Run.withSelector_out s 0 0 _ _ h, Run.retire_some]
    rfl

/-! ### The commands of a subscriber slot -/

section slots
variable {s : State} {slot : BitVec 4} (hf : s.err.fatal = false)
include hf

/-- A slot command with a slot below N_SUB does its work on that slot. -/
theorem command_withSlot_ok (i : Instr) (g : Nat → Run → Run) (h : slot.toNat < s.cfg.nSub) :
    command i [notFatal] (fun r => r.withSlot slot g) s =
      .next ((g slot.toNat ⟨s, 0, none, 0⟩).retire (encode i)) := by
  rw [command_notFatal hf, Run.withSlot_ok s 0 0 g h]

/-- A slot command with a slot of N_SUB or more only records InvalidInput with its number. -/
theorem command_withSlot_out (i : Instr) (g : Nat → Run → Run) (h : s.cfg.nSub ≤ slot.toNat) :
    command i [notFatal] (fun r => r.withSlot slot g) s =
      .next (s.afterError (encode i) .invalidInput (slot.setWidth 32)) := by
  rw [command_notFatal hf, Run.withSlot_out s 0 0 g h, Run.retire_some]
  rfl

/-- A slot command that changes its slot and then answers the slot's mask: the next state, with the
mask read after the change (41_button.md R172, R173). -/
theorem command_modifySlot_answerMask (i : Instr) (f : Subscriber → Subscriber)
    (h : slot.toNat < s.cfg.nSub) (hlen : s.subs.length = s.cfg.nSub) :
    command i [notFatal] (fun r => r.withSlot slot fun n r =>
        (r.write fun s => s.modifySlot n f).answer fun s => zext32 (s.slot n).mask) s =
      .next ((s.modifySlot slot.toNat f).afterOk (zext32 (f (s.slot slot.toNat)).mask)) := by
  have there : slot.toNat < s.subs.length := hlen ▸ h
  rw [command_withSlot_ok hf _ _ h, Run.write_none, Run.answer_none, Run.retire_none,
    State.modifySlot_slot s there, if_pos rfl]

/-- A slot command that takes its answer from the slot and then changes the slot: the value is the
one before the change (41_button.md R174). -/
theorem command_answer_modifySlot (i : Instr) (answer : Subscriber → W32)
    (f : Subscriber → Subscriber) (h : slot.toNat < s.cfg.nSub) :
    command i [notFatal] (fun r => r.withSlot slot fun n r =>
        (r.answer fun s => answer (s.slot n)).write fun s => s.modifySlot n f) s =
      .next ((s.modifySlot slot.toNat f).afterOk (answer (s.slot slot.toNat))) := by
  rw [command_withSlot_ok hf _ _ h, Run.answer_none, Run.write_none, Run.retire_none]

end slots

/-- Settles O21: the words are `pack_selectorMask`; BSUB and BUNSUB answer the mask they leave, BACK
the events it takes away, and a slot out of range is `command_withSlot_out`. -/
theorem subscriptionCommandsChangeTheSlot : Obligations.SubscriptionCommandsChangeTheSlot := by
  refine ⟨rfl, fun s slot m hf => ⟨?words, fun h hlen => ?inRange, fun h => ?outOfRange⟩⟩
  case words =>
    exact ⟨pack_selectorMask 0x25 slot m, pack_selectorMask 0x26 slot m,
      pack_selectorMask 0x27 slot m⟩
  case inRange =>
    exact ⟨command_modifySlot_answerMask hf (.bsub slot m) _ h hlen,
      command_modifySlot_answerMask hf (.bunsub slot m) _ h hlen,
      command_answer_modifySlot hf (.back slot m) (fun u => zext32 (u.pend &&& m)) _ h⟩
  case outOfRange =>
    exact ⟨command_withSlot_out hf (.bsub slot m) _ h, command_withSlot_out hf (.bunsub slot m) _ h,
      command_withSlot_out hf (.back slot m) _ h⟩

/-! ### The notify step -/

/-- `bump` counts the event's own kind and no other (41_button.md R171). -/
theorem EventCounts.count_bump (c : EventCounts) (k : EventKind) (k' : Fin 3) :
    (c.bump k).count k' = if k'.val = k.index then c.count k' + 1 else c.count k' := by
  cases k with
  | press | double | hold => fin_cases k' <;> rfl

/-- `notify` leaves the mask. -/
@[simp] theorem Subscriber.notify_mask (u : Subscriber) (e : Nat) : (u.notify e).mask = u.mask := by
  rw [Subscriber.notify]
  split <;> rfl

/-- `notify` sets the event's pending bit when the slot is subscribed to it, and keeps every
bit that is set (41_button.md R171). -/
theorem Subscriber.notify_pend_getLsbD (u : Subscriber) (e j : Nat) :
    (u.notify e).pend.getLsbD j =
      (u.pend.getLsbD j || (decide (j = e) && u.mask.getLsbD e)) := by
  rw [Subscriber.notify]
  split
  next subscribed =>
    have inMask : e < 12 := BitVec.lt_of_getLsbD subscribed
    have bit : (BitVec.twoPow 12 e).getLsbD j = decide (j = e) := by
      rw [BitVec.getLsbD_twoPow, decide_eq_true inMask, Bool.true_and]
      exact decide_eq_decide.mpr eq_comm
    rw [BitVec.getLsbD_or, bit, subscribed, Bool.and_true]
  next unsubscribed =>
    rw [Bool.eq_false_of_not_eq_true unsubscribed, Bool.and_false, Bool.or_false]

/-- A slot with a pending event has its interrupt line up (60_exceptions.md R340). -/
theorem State.irqSub_of_pending {s : State} {i e : Nat} (h : (s.slot i).pend.getLsbD e = true) :
    s.irqSub i = true := by
  have pending : (s.slot i).pend ≠ 0 := by
    intro noneSet
    simp [noneSet] at h
  exact bne_iff_ne.mpr pending

/-- `emit` adds one to the count of its button and kind, and to no other (41_button.md R171). -/
theorem State.emit_count (s : State) (b : Fin 4) (k : EventKind) (b' : Fin 4) (k' : Fin 3) :
    ((s.emit b k).evcnt.get b').count k' =
      if b' = b ∧ k'.val = k.index then (s.evcnt.get b').count k' + 1
      else (s.evcnt.get b').count k' := by
  rw [State.emit_evcnt_get]
  by_cases same : b' = b
  · simp only [same, if_true, true_and, EventCounts.count_bump]
  · simp only [same, if_false, false_and]

/-- Settles O24: `emit` notifies every slot (`State.emit_slot_eq`), so masks, pending bits and lines
are those of `Subscriber.notify`; the counts are `State.emit_count`. -/
theorem emitNotifiesTheSubscribers : Obligations.EmitNotifiesTheSubscribers := by
  refine ⟨rfl, fun s b k => ?_⟩
  intro t e
  have slot (i : Nat) : t.slot i = (s.slot i).notify e := s.emit_slot_eq b k i
  have pend (i j : Nat) : (t.slot i).pend.getLsbD j =
      ((s.slot i).pend.getLsbD j || (decide (j = e) && (s.slot i).mask.getLsbD e)) := by
    rw [slot, Subscriber.notify_pend_getLsbD]
  refine ⟨s.emit_count b k, List.length_map ..,
    fun i => ⟨?mask, pend i, fun subscribed => ?line⟩, rfl⟩
  case mask => rw [slot, Subscriber.notify_mask]
  case line =>
    have bitSet : (t.slot i).pend.getLsbD e = true := by simp [pend, subscribed]
    exact State.irqSub_of_pending bitSet

end Sys2Proof.Machine

/-! SUPPORT. The LED driver (42_sn3218.md): a bus command whose pseudocode is a row of bus writes
answers OK or ends at the first that fails (60_exceptions.md R331); SNEN, SNDIS, SNRST and SNUPD
(R201, R202, R203, R205) and SNMASK (R204, 20_memory.md R67) are such rows. Settles the statements
O33 and O34. -/

namespace Sys2Proof.Machine

/-! ### A bus command that is a row of writes -/

section busCommand
variable {s : State} (hf : s.err.fatal = false) (ho : s.i2cOpen = true)
include hf ho

/-- With FATAL = 0 and the bus open a command with these two checks runs its pseudocode
(42_sn3218.md R200). -/
theorem command_busOpen (i : Instr) (body : Run → Run) :
    command i [notFatal, busOpen] body s =
      .next ((body ⟨s, 0, none, 0⟩).retire (encode i)) :=
  command_admitted ((firstFailure_cons_none (notFatal_none hf)).trans
    (firstFailure_cons_none (busOpen_none ho)))

/-- A bus command whose pseudocode is a row of writes: answered ok it makes them all and answers OK
with value 0; else it ends at the first write that fails, with the number of that write
(60_exceptions.md R331). -/
theorem exec_i2cs {i : Instr} {body : Run → Run}
    (pseudocode : exec i s = command i [notFatal, busOpen] body s) {writes : List (List Byte)}
    (row : body ⟨s, 0, none, 0⟩ = writes.foldl Run.i2c ⟨s, 0, none, 0⟩) :
    (s.AnswersOk writes.length → exec i s = .next ((s.busMade writes).afterOk 0)) ∧
    ∀ k < writes.length, s.FailsAt k →
      exec i s = .next ((s.busFailed writes k).afterError (encode i) .transportFailure
        (BitVec.ofNat 32 k)) := by
  rw [pseudocode, command_busOpen hf ho, row]
  refine ⟨fun oks => ?_, fun k hk fails => ?_⟩
  · rw [Run.i2cs_ok writes s 0 0 oks, Run.retire_none]
  · rw [Run.i2cs_fail writes s 0 k 0 hk fails, Run.retire_some, Nat.zero_add]

end busCommand

/-- Settles O33: each of the four commands is a row of one write (`exec_i2cs`). -/
theorem singleShotCommandsMakeOneWrite : Obligations.SingleShotCommandsMakeOneWrite := by
  refine ⟨rfl, rfl, rfl, rfl, rfl, rfl, rfl, rfl, rfl, rfl, rfl, rfl, fun s hf ho => ?_⟩
  intro sends
  have sends_of (i : Instr) (bytes : Config → List Byte)
      (pseudocode : exec i s =
        command i [notFatal, busOpen] (fun r => r.i2c (bytes r.state.cfg)) s) :
      sends i (bytes s.cfg) := by
    obtain ⟨made, cut⟩ := exec_i2cs hf ho pseudocode (writes := [bytes s.cfg]) rfl
    exact ⟨made, cut 0 Nat.zero_lt_one⟩
  exact ⟨sends_of .snen enableBytes rfl, sends_of .sndis disableBytes rfl,
    sends_of .snrst resetBytes rfl, sends_of .snupd updateBytes rfl⟩

/-! ### SNMASK -/

/-- In a word of format M18 the 38 bits between the opcode and the mask are zero (30_encoding.md
R92). -/
theorem pack_maskOnly (opc : BitVec 8) (m : BitVec 18) :
    pack opc 0 0 0 (hi16 (m.setWidth 32)) (lo16 (m.setWidth 32)) = opc ++ (0 : BitVec 38) ++ m := by
  have fits : m.toNat < 2 ^ 32 := Nat.lt_trans m.isLt (by decide)
  have halves : (hi16 (m.setWidth 32)).toNat <<< 16 ||| (lo16 (m.setWidth 32)).toNat = m.toNat := by
    rw [← BitVec.toNat_append]
    show (wordOf (hi16 (m.setWidth 32)) (lo16 (m.setWidth 32))).toNat = m.toNat
    rw [wordOf_hi16_lo16, BitVec.toNat_setWidth, Nat.mod_eq_of_lt fits]
  apply BitVec.eq_of_toNat_eq
  simp only [pack, BitVec.toNat_append, BitVec.toNat_zero, BitVec.ofNat_eq_ofNat, Nat.or_zero,
    Nat.shiftLeft_or_distrib, Nat.or_assoc, halves, ← Nat.shiftLeft_add]

/-- The word operand of a command word is its lower half (30_encoding.md R91). -/
theorem wordOf_fieldsOf (cw : W64) :
    wordOf (fieldsOf cw).h1 (fieldsOf cw).h0 = cw.extractLsb' 0 32 :=
  BitVec.extractLsb'_append_extractLsb'_eq_extractLsb' rfl

/-- Opcode 0x33 is SNMASK's, of format M18 (30_encoding.md R95). -/
theorem decodeFields_snmask {f : Fields} (h : f.opc = 0x33) :
    decodeFields f = fmtM18 f .snmask := by
  obtain ⟨opc, a, b, h2, h1, h0⟩ := f
  subst h
  rfl

/-- A word of SNMASK's opcode with a bit of W[31:18] set is refused for its reserved bits
(30_encoding.md R96 (b)). -/
theorem decode_snmask_reserved {cw : W64} (opcode : cw.extractLsb' 56 8 = (0x33 : BitVec 8))
    (above : cw.extractLsb' 18 14 ≠ (0 : BitVec 14)) :
    decode cw = .error (.reservedBits 0x33) := by
  have slice : (wordOf (fieldsOf cw).h1 (fieldsOf cw).h0).extractLsb' 18 14 =
      cw.extractLsb' 18 14 := by
    rw [wordOf_fieldsOf]
    exact BitVec.extractLsb'_extractLsb'_of_le (by decide)
  have refused : ((wordOf (fieldsOf cw).h1 (fieldsOf cw).h0).extractLsb' 18 14 == 0) = false := by
    rw [slice]
    exact beq_eq_false_iff_ne.mpr above
  rw [decode, decodeFields_snmask opcode, fmtM18, legalIf_error, refused, Bool.and_false]
  exact ⟨rfl, congrArg _ opcode.symm⟩

/-- A byte with the number of a six-bit group of the mask is that group, widened (20_memory.md
R67). -/
theorem maskGroup_eq {m : BitVec 18} {byte : Byte} (start : Nat)
    (h : byte.toNat = m.toNat / 2 ^ start % 64) :
    (m.extractLsb' start 6).setWidth 8 = byte := by
  have below : m.toNat / 2 ^ start % 64 < 2 ^ 8 := h ▸ byte.isLt
  apply BitVec.eq_of_toNat_eq
  rw [h, BitVec.toNat_setWidth, BitVec.extractLsb'_toNat, Nat.shiftRight_eq_div_pow,
    Nat.mod_eq_of_lt below]

/-- The mask write holds the three groups, lowest first (20_memory.md R65, R67). -/
theorem maskBytes_eq (cfg : Config) {m : BitVec 18} {m0 m1 m2 : Byte}
    (h0 : m0.toNat = m.toNat % 64) (h1 : m1.toNat = m.toNat / 64 % 64)
    (h2 : m2.toNat = m.toNat / 4096) : maskBytes cfg m = [cfg.cmdLeds, m0, m1, m2] := by
  have top : m.toNat / 4096 < 64 := Nat.div_lt_of_lt_mul m.isLt
  rw [maskBytes, maskGroup_eq 0 (by rw [h0, Nat.pow_zero, Nat.div_one]), maskGroup_eq 6 h1,
    maskGroup_eq 12 (h2.trans (Nat.mod_eq_of_lt top).symm)]

/-- Settles O34: SNMASK is a row of two writes, the first of them `maskBytes_eq`; its word is
`pack_maskOnly`, and a reserved bit is refused by `decode_snmask_reserved`. -/
theorem channelMaskIsSentInThreeGroups : Obligations.ChannelMaskIsSentInThreeGroups := by
  refine ⟨rfl, rfl, rfl, rfl, fun _ => decode_snmask_reserved, ?_⟩
  intro s m m0 m1 m2 hf ho h0 h1 h2 writes
  have pseudocode : exec (.snmask m) s = command (.snmask m) [notFatal, busOpen]
      (fun r => (r.i2c (maskBytes r.state.cfg m)).i2c (updateBytes r.state.cfg)) s := rfl
  have sent := exec_i2cs hf ho pseudocode
    (writes := [maskBytes s.cfg m, updateBytes s.cfg]) rfl
  rw [maskBytes_eq s.cfg h0 h1 h2] at sent
  exact ⟨pack_maskOnly 0x33 m, sent⟩

end Sys2Proof.Machine

/-! SUPPORT. The HSV pre-step (43_underlight.md R240): the model counts chroma, second component and
offset in units of 1/(60 * ONE * ONE), where each is a natural number, so its one rounded division
is the rounding of the rational formula. Settles the statement O42. -/

namespace Sys2Proof.Machine

/-! ### The arithmetic primitives over the rationals -/

/-- The clamp of saturations and values, in the lattice operations (00_scope.md R8). -/
theorem clampUnit_eq_max_min (v : Int) : (clampUnit v : Int) = max 0 (min v 16384) := by
  simp only [clampUnit, clamp, ONE]
  split_ifs <;> omega

theorem clampUnit_le_one (v : Int) : clampUnit v ≤ ONE := by
  have clamped := clampUnit_eq_max_min v
  rw [ONE]
  omega

/-- `rnd` rounds the fraction to nearest, halves upward (00_scope.md R8). -/
theorem rnd_eq_floor (num : Nat) {den : Nat} (pos : 0 < den) :
    (rnd num den : Int) = ⌊(num : ℚ) / den + 1 / 2⌋ := by
  have halves : (num : ℚ) / den + 1 / 2 = ((2 * num + den : Nat) : ℚ) / (2 * den : Nat) := by
    push_cast
    field_simp
  rw [halves, Rat.floor_natCast_div_natCast, rnd, Int.natCast_div]

/-! ### The parts of a color in units of 1/(60 * ONE * ONE) -/

/-- How many units make 1. -/
def hsvUnits : Nat := 60 * ONE * ONE
/-- The chroma C in units. -/
def hsvChroma (sat val : Nat) : Nat := 60 * val * sat
/-- The second component X of the wrapped hue in units. -/
def hsvSecond (hue sat val : Nat) : Nat :=
  (60 - (((hue % 120 : Nat) : Int) - 60).natAbs) * val * sat
/-- The offset m in units. -/
def hsvOffset (sat val : Nat) : Nat := 60 * val * ONE - hsvChroma sat val
/-- The byte of a component in units. -/
def hsvByte (n : Nat) : Byte := BitVec.ofNat 8 (rnd (255 * n) hsvUnits)

/-- The pre-step is its sector's components, each with the offset added, as bytes. -/
theorem hsvToRgb_eq {h : W16} {hue : Nat} (wrapped : h.toInt % 360 = hue) (s v : W16) :
    let sat := clampUnit s.toInt
    let val := clampUnit v.toInt
    let p := hsvSector (hue / 60) (hsvChroma sat val) (hsvSecond hue sat val)
    hsvToRgb h s v = (hsvByte (p.1 + hsvOffset sat val), hsvByte (p.2.1 + hsvOffset sat val),
      hsvByte (p.2.2 + hsvOffset sat val)) := by
  have hue_eq : hue = (sext16 h % 360).toNat := by rw [sext16, wrapped, Int.toNat_natCast]
  rw [hue_eq]
  rfl

/-- A component of at most 1 has a byte, and it is 255 times the component, rounded. -/
theorem hsvByte_eq_floor {n : Nat} {q : ℚ} (units : (n : ℚ) = hsvUnits * q) (le : n ≤ hsvUnits) :
    ((hsvByte n).toNat : Int) = ⌊255 * q + 1 / 2⌋ := by
  have pos : 0 < hsvUnits := by decide
  have fits : rnd (255 * n) hsvUnits < 2 ^ 8 := by
    rw [rnd, Nat.div_lt_iff_lt_mul (by omega)]
    omega
  have fraction : ((255 * n : Nat) : ℚ) / hsvUnits = 255 * q := by
    have nonzero : (hsvUnits : ℚ) ≠ 0 := by exact_mod_cast pos.ne'
    rw [Nat.cast_mul, units, mul_left_comm, mul_div_cancel_left₀ _ nonzero, Nat.cast_ofNat]
  rw [hsvByte, BitVec.toNat_ofNat, Nat.mod_eq_of_lt fits, rnd_eq_floor _ pos, fraction]

section parts
variable {sat val : Nat}

theorem hsvChroma_units (sat val : Nat) :
    (hsvChroma sat val : ℚ) = hsvUnits * ((val : ℚ) / 16384 * ((sat : ℚ) / 16384)) := by
  simp only [hsvChroma, hsvUnits, ONE]
  push_cast
  ring

/-- The model's distance of the hue from the middle of its 120 degrees is the formula's
|((hw / 60) mod 2) - 1| in sixtieths. -/
theorem hueDistance_eq (hue : Nat) :
    ((60 - (((hue % 120 : Nat) : Int) - 60).natAbs : Nat) : ℚ) =
      60 * (1 - |((hue % 120 : Nat) : ℚ) / 60 - 1|) := by
  have within : (((hue % 120 : Nat) : Int) - 60).natAbs ≤ 60 := by omega
  have sixtieths : ((hue % 120 : Nat) : ℚ) / 60 - 1 = (((hue % 120 : Nat) : ℚ) - 60) / 60 := by ring
  rw [Nat.cast_sub within, Nat.cast_natAbs, sixtieths, abs_div,
    abs_of_pos (a := (60 : ℚ)) (by norm_num), Int.cast_abs, Int.cast_sub, Int.cast_natCast,
    Nat.cast_ofNat, Int.cast_ofNat]
  ring

theorem hsvSecond_units (hue sat val : Nat) :
    (hsvSecond hue sat val : ℚ) = hsvUnits * ((val : ℚ) / 16384 * ((sat : ℚ) / 16384) *
      (1 - |((hue % 120 : Nat) : ℚ) / 60 - 1|)) := by
  rw [hsvSecond, Nat.cast_mul, Nat.cast_mul, hueDistance_eq, hsvUnits, ONE]
  push_cast
  ring

theorem hsvSecond_le_chroma (hue sat val : Nat) : hsvSecond hue sat val ≤ hsvChroma sat val :=
  Nat.mul_le_mul_right sat (Nat.mul_le_mul_right val (Nat.sub_le 60 _))

theorem hsvChroma_le_brightness (hs : sat ≤ ONE) : hsvChroma sat val ≤ 60 * val * ONE :=
  Nat.mul_le_mul_left _ hs

theorem hsvOffset_units (hs : sat ≤ ONE) :
    (hsvOffset sat val : ℚ) =
      hsvUnits * ((val : ℚ) / 16384 - (val : ℚ) / 16384 * ((sat : ℚ) / 16384)) := by
  rw [hsvOffset, Nat.cast_sub (hsvChroma_le_brightness hs), hsvChroma_units, hsvUnits, ONE]
  push_cast
  ring

/-- A component of at most the chroma stays at most 1 with the offset added, so its byte is the
formula's. -/
theorem hsvByte_component (hs : sat ≤ ONE) (hv : val ≤ ONE) {n : Nat} {q : ℚ}
    (units : (n : ℚ) = hsvUnits * q) (le : n ≤ hsvChroma sat val) :
    ((hsvByte (n + hsvOffset sat val)).toNat : Int) =
      ⌊255 * (q + ((val : ℚ) / 16384 - (val : ℚ) / 16384 * ((sat : ℚ) / 16384))) + 1 / 2⌋ := by
  apply hsvByte_eq_floor
  · rw [Nat.cast_add, units, hsvOffset_units hs, mul_add]
  · calc n + hsvOffset sat val
        ≤ hsvChroma sat val + hsvOffset sat val := Nat.add_le_add_right le _
      _ = 60 * val * ONE := Nat.add_sub_cancel' (hsvChroma_le_brightness hs)
      _ ≤ hsvUnits := Nat.mul_le_mul_right ONE (Nat.mul_le_mul_left 60 hv)

end parts

/-- Settles O42: the three components C, X and 0 have the formula's bytes (`hsvByte_component`), and
each sector's row of the table places them. -/
theorem hsvIsTheRationalFormula : Obligations.HsvIsTheRationalFormula := by
  refine ⟨?_, by decide, by decide, by decide⟩
  intro h s v p S V hw C X m is
  have nonneg : 0 ≤ hw := Int.emod_nonneg _ (by decide)
  have below : hw < 360 := Int.emod_lt_of_pos _ (by decide)
  obtain ⟨hue, wrapped⟩ : ∃ hue : Nat, hw = hue := Int.eq_ofNat_of_zero_le nonneg
  have sat_eq : S = (clampUnit s.toInt : ℚ) / 16384 := by
    rw [← Int.cast_natCast, clampUnit_eq_max_min]
  have val_eq : V = (clampUnit v.toInt : ℚ) / 16384 := by
    rw [← Int.cast_natCast, clampUnit_eq_max_min]
  have hue_eq : ((hw % 120 : Int) : ℚ) = ((hue % 120 : Nat) : ℚ) := by
    rw [wrapped]
    norm_cast
  have chroma : (hsvChroma (clampUnit s.toInt) (clampUnit v.toInt) : ℚ) = hsvUnits * C := by
    rw [hsvChroma_units, ← sat_eq, ← val_eq]
  have second : (hsvSecond hue (clampUnit s.toInt) (clampUnit v.toInt) : ℚ) = hsvUnits * X := by
    rw [hsvSecond_units, ← sat_eq, ← val_eq, ← hue_eq]
  have byte {n : Nat} {q : ℚ} (units : (n : ℚ) = hsvUnits * q)
      (le : n ≤ hsvChroma (clampUnit s.toInt) (clampUnit v.toInt)) :
      ((hsvByte (n + hsvOffset (clampUnit s.toInt) (clampUnit v.toInt))).toNat : Int) =
        ⌊255 * (q + m) + 1 / 2⌋ := by
    have component := hsvByte_component (clampUnit_le_one _) (clampUnit_le_one _) units le
    rwa [← sat_eq, ← val_eq] at component
  have byteC := byte chroma le_rfl
  have byteX := byte second (hsvSecond_le_chroma _ _ _)
  have byte0 := byte (n := 0) (q := 0) (by simp) (Nat.zero_le _)
  have sector {k : Nat} (hk : hw / 60 = k) : hue / 60 = k := by omega
  have triple := hsvToRgb_eq wrapped s v
  refine ⟨fun hk => ?_, fun hk => ?_, fun hk => ?_, fun hk => ?_, fun hk => ?_, fun hk => ?_,
    nonneg, below⟩
  all_goals
    simp only [sector hk] at triple
    simp only [is, p, triple]
  · exact ⟨byteC, byteX, byte0⟩
  · exact ⟨byteX, byteC, byte0⟩
  · exact ⟨byte0, byteC, byteX⟩
  · exact ⟨byte0, byteX, byteC⟩
  · exact ⟨byteX, byte0, byteC⟩
  · exact ⟨byteC, byte0, byteX⟩

end Sys2Proof.Machine

/-! SUPPORT. The ultrasound engine (44_ultrasound.md): the distance formula (R264), UCANCEL (R263),
and the ticks of the gap and of the trigger pulse (R266, R267) of a read without an overall limit.
Settles the statements O46, O47 and O51. -/

namespace Sys2Proof.Machine

/-! ### The distance formula -/

/-- The saturating narrowing is the lesser of the value and 2^32 - 1 (44_ultrasound.md R264). -/
theorem sat32_toNat (v : Nat) : (sat32 v).toNat = min v (2 ^ 32 - 1) :=
  Nat.mod_eq_of_lt (Nat.lt_of_le_of_lt (Nat.min_le_right v u32Max) (by decide))

/-- With the default parameters the factors shared by numerator and divisor cancel
(44_ultrasound.md R264). -/
theorem distance_standard_quotient (T n : Nat) :
    T * 1000 * 343 * 65536 / (1000000 * 10 * 2 * n) = T * 702464 / (625 * n) := by
  have numerator : T * 1000 * 343 * 65536 = 32000 * (T * 702464) := by ring
  have divisor : 1000000 * 10 * 2 * n = 32000 * (625 * n) := by ring
  rw [numerator, divisor, Nat.mul_div_mul_left _ _ (by decide)]

/-- Settles O51: a quotient of naturals is the floor of the rational quotient, and `sat32_toNat`
saturates it. -/
theorem distanceIsTheFlooredQuotient : Obligations.DistanceIsTheFlooredQuotient := by
  intro cfg T n _ _ _
  constructor
  · have floored : ⌊(T : ℚ) * 1000 * cfg.sosNum * 65536 / (cfg.tickHz * cfg.sosDen * 2 * n)⌋ =
        ((T * 1000 * cfg.sosNum * 65536 / (cfg.tickHz * cfg.sosDen * 2 * n) : Nat) : Int) := by
      rw [Int.natCast_div, ← Rat.floor_natCast_div_natCast]
      push_cast
      rfl
    rw [floored, distance, sat32_toNat, min_comm, Nat.cast_min]
    rfl
  · rw [← distance_standard_quotient, min_comm, ← sat32_toNat]
    rfl

/-! ### A write of TRIG, and UCANCEL -/

/-- A write of TRIG that succeeds, made with the engine's registers at `u`, and then a change of
those registers. -/
theorem Run.trig_engine_ok {s : State} (leavesOk : s.LeavesOk 1) (u : Engine) (line : Bool)
    (g : Engine → Engine) :
    (Run.leaf ⟨{ s with us := u }, 0, none, 0⟩ (.gpioWrite .trig line)).engine g =
      ⟨({ s with trig := line, us := g u } : State).leavesMade 1, 1, none, 0⟩ := by
  rw [Run.gpio_ok (s := { s with us := u }) _ _ leavesOk, Run.engine_none]
  rfl

/-- Settles O46: the idle engine is left alone; a running one is stopped after the write of TRIG
(`Run.trig_engine_ok`). -/
theorem cancelStopsTheRead : Obligations.CancelStopsTheRead := by
  refine ⟨rfl, fun s hf => ⟨fun idle => ?idle, fun running leavesOk => ?running⟩⟩
  all_goals
    show execUcancel s = _
    rw [execUcancel, command_notFatal hf]
  case idle => rw [if_pos idle, Run.retire_none]
  case running =>
    rw [if_neg running, Run.trig_engine_ok leavesOk s.us, Run.answer_none, Run.retire_none]

/-! ### What a tick does before the engine's turn -/

/-- The button channels and the blink timer, which a tick steps before the engine, leave what the
engine works on (00_scope.md R7). -/
theorem State.beforeEngine_frame (s : State) (x : Sample) :
    let u := (s.advanceNow.buttonTicks x).blinkTick
    u.cfg = s.cfg ∧ u.us = s.us ∧ u.usTune = s.usTune ∧ u.trig = s.trig := by
  have button (t : State) (b : Fin 4) (level : Bool) :
      (t.buttonTick b level).cfg = t.cfg ∧ (t.buttonTick b level).us = t.us ∧
        (t.buttonTick b level).usTune = t.usTune ∧ (t.buttonTick b level).trig = t.trig := by
    rw [(t.buttonTick_frame b level).1]
    exact ⟨rfl, rfl, rfl, rfl⟩
  intro u
  rw [show u = _ from (State.blinkTick_frame _).1]
  simp only [State.buttonTicks, button, State.advanceNow, and_self]

/-- A tick step leaves the parameters and the engine's tunables. -/
theorem State.tickStep_tunables (s : State) (x : Sample) :
    (s.tickStep x).cfg = s.cfg ∧ (s.tickStep x).usTune = s.usTune := by
  obtain ⟨cfg, -, usTune, -⟩ := s.beforeEngine_frame x
  rw [State.tickStep, (State.engineTick_frame _ x.echo).1]
  exact ⟨cfg, usTune⟩

/-! ### A tick of the engine -/

/-- The engine's registers with the tick counted in US_OCNT (44_ultrasound.md R265). -/
def Engine.tickCounted (u : Engine) : Engine := { u with ocnt := upSat u.ocnt }

section engineTick
variable {s : State} (unlimited : s.usTune.overall = 0)

/-- A running engine whose step ends without a failed leaf operation is in the state of that step. -/
theorem State.engineTick_of_step {s t : State} {e : Bool} {k : Nat} {v : W32}
    (running : s.us.st ≠ .idle) (step : (Run.start s).engineStep e = ⟨t, k, none, v⟩) :
    s.engineTick e = t := by
  rw [State.engineTick, if_neg running, step]

include unlimited

/-- With no overall limit a tick of the gap is counted and then follows 44_ultrasound.md R266. -/
theorem Run.engineStep_gap (gap : s.us.st = .gap) (e : Bool) :
    (Run.start s).engineStep e = Run.engineGap ⟨{ s with us := s.us.tickCounted }, 0, none, 0⟩ := by
  simp only [Run.engineStep, Run.start_eq, Run.engine_none, unlimited, gap, ne_eq, not_true,
    false_and, if_false, Engine.tickCounted]

/-- With no overall limit a tick of the pulse is counted and then follows 44_ultrasound.md R267. -/
theorem Run.engineStep_trig (pulse : s.us.st = .trig) (e : Bool) :
    (Run.start s).engineStep e =
      Run.engineTrig ⟨{ s with us := s.us.tickCounted }, 0, none, 0⟩ e := by
  simp only [Run.engineStep, Run.start_eq, Run.engine_none, unlimited, pulse, ne_eq, not_true,
    false_and, if_false, Engine.tickCounted]

/-- A tick of a gap that has not run out counts it down (44_ultrasound.md R266). -/
theorem State.engineTick_gap_waits (gap : s.us.st = .gap) (left : s.us.ctr ≠ 0) (e : Bool) :
    s.engineTick e = { s with us := { s.us.tickCounted with ctr := s.us.ctr - 1 } } := by
  apply State.engineTick_of_step (by simp [gap])
  rw [Run.engineStep_gap unlimited gap, Run.engineGap]
  exact if_neg left

/-- A tick of a gap that has run out raises TRIG and counts the cycle (44_ultrasound.md R266). -/
theorem State.engineTick_gap_over (gap : s.us.st = .gap) (runOut : s.us.ctr = 0)
    (leavesOk : s.LeavesOk 1) (e : Bool) :
    s.engineTick e =
      ({ s with trig := true,
                us := { s.us.tickCounted with st := .trig, ctr := s.cfg.trigTicks,
                                              idx := s.us.idx + 1 } } : State).leavesMade 1 := by
  apply State.engineTick_of_step (by simp [gap])
  rw [Run.engineStep_gap unlimited gap, Run.engineGap]
  exact (if_pos runOut).trans (Run.trig_engine_ok leavesOk _ true _)

/-- A tick of the pulse that is not its last counts it down (44_ultrasound.md R267). -/
theorem State.engineTick_pulse_lasts (pulse : s.us.st = .trig) (left : s.us.ctr - 1 ≠ 0)
    (e : Bool) :
    s.engineTick e = { s with us := { s.us.tickCounted with ctr := s.us.ctr - 1 } } := by
  apply State.engineTick_of_step (by simp [pulse])
  rw [Run.engineStep_trig unlimited pulse, Run.engineTrig, Run.engine_none]
  exact if_neg left

/-- The last tick of the pulse lowers TRIG and starts the wait for the echo (44_ultrasound.md
R267). -/
theorem State.engineTick_pulse_over (pulse : s.us.st = .trig) (runOut : s.us.ctr - 1 = 0)
    (leavesOk : s.LeavesOk 1) (e : Bool) :
    s.engineTick e =
      ({ s with trig := false,
                us := { s.us.tickCounted with ctr := s.us.ctr - 1, st := .waitRise, scnt := 0,
                                              eprev := e } } : State).leavesMade 1 := by
  apply State.engineTick_of_step (by simp [pulse])
  rw [Run.engineStep_trig unlimited pulse, Run.engineTrig, Run.engine_none]
  exact (if_pos runOut).trans (Run.trig_engine_ok leavesOk _ false _)

end engineTick

/-! ### A tick of the gap and of the pulse -/

/-- TRIG is low in a gap with `c` ticks left, and US_IDX is `i`. -/
def State.GapLeft (s : State) (i : BitVec 8) (c : Nat) : Prop :=
  s.trig = false ∧ s.us.st = .gap ∧ s.us.idx = i ∧ s.us.ctr.toNat = c

/-- TRIG is high in a pulse with `c` ticks left, and US_IDX is `i`. -/
def State.PulseLeft (s : State) (i : BitVec 8) (c : Nat) : Prop :=
  s.trig = true ∧ s.us.st = .trig ∧ s.us.idx = i ∧ s.us.ctr.toNat = c

/-- The wait for the echo has begun with the echo level `e` remembered; TRIG is low and US_IDX is
`i`. -/
def State.WaitBegun (s : State) (i : BitVec 8) (e : Bool) : Prop :=
  s.trig = false ∧ s.us.st = .waitRise ∧ s.us.idx = i ∧ s.us.scnt = 0 ∧ s.us.eprev = e

/-- A counter that is not 0 goes down by one without wrapping. -/
theorem toNat_sub_one_of_succ {v : W32} {c : Nat} (h : v.toNat = c + 1) : (v - 1).toNat = c := by
  have one_le : (1 : W32) ≤ v := by
    rw [BitVec.le_def, h]
    exact Nat.le_add_left 1 c
  rw [BitVec.toNat_sub_of_le one_le, h]
  rfl

/-- Without LEAF_CAN_FAIL the next leaf operation succeeds, whatever a tick did before it. -/
theorem State.LeavesOk.of_cfg_eq {s u : State} (cfg : u.cfg = s.cfg)
    (noFail : s.cfg.leafCanFail = false) (n : Nat) : u.LeavesOk n := by
  intro canFail
  rw [cfg, noFail] at canFail
  cases canFail

section tick
variable {s : State} {i : BitVec 8} {c : Nat} (unlimited : s.usTune.overall = 0) (x : Sample)
include unlimited

/-- The ticks of the gap leave the line low. -/
theorem State.GapLeft.tick (h : s.GapLeft i (c + 1)) : (s.tickStep x).GapLeft i c := by
  obtain ⟨low, gap, idx, ctr⟩ := h
  obtain ⟨-, us, usTune, trig⟩ := s.beforeEngine_frame x
  have left : s.us.ctr ≠ 0 := fun zero => by simp [zero] at ctr
  rw [State.tickStep, State.engineTick_gap_waits (usTune ▸ unlimited) (us ▸ gap) (us ▸ left), us]
  exact ⟨trig.trans low, gap, idx, toNat_sub_one_of_succ ctr⟩

/-- The tick after the gap raises the line for TRIG_TICKS ticks. -/
theorem State.GapLeft.tick_over (noFail : s.cfg.leafCanFail = false) (h : s.GapLeft i 0) :
    (s.tickStep x).PulseLeft (i + 1) s.cfg.trigTicks.toNat := by
  obtain ⟨-, gap, rfl, ctr⟩ := h
  obtain ⟨cfg, us, usTune, -⟩ := s.beforeEngine_frame x
  have runOut : s.us.ctr = 0 := BitVec.eq_of_toNat_eq ctr
  rw [State.tickStep, State.engineTick_gap_over (usTune ▸ unlimited) (us ▸ gap) (us ▸ runOut)
    (.of_cfg_eq cfg noFail 1), us, cfg]
  exact ⟨rfl, rfl, rfl, rfl⟩

/-- The ticks of the pulse but its last leave the line high. -/
theorem State.PulseLeft.tick (more : c ≠ 0) (h : s.PulseLeft i (c + 1)) :
    (s.tickStep x).PulseLeft i c := by
  obtain ⟨high, pulse, idx, ctr⟩ := h
  obtain ⟨-, us, usTune, trig⟩ := s.beforeEngine_frame x
  have down : (s.us.ctr - 1).toNat = c := toNat_sub_one_of_succ ctr
  have left : s.us.ctr - 1 ≠ 0 := fun zero => more (by rw [← down, zero]; rfl)
  rw [State.tickStep, State.engineTick_pulse_lasts (usTune ▸ unlimited) (us ▸ pulse) (us ▸ left), us]
  exact ⟨trig.trans high, pulse, idx, down⟩

/-- The last tick of the pulse lowers the line and remembers the echo level. -/
theorem State.PulseLeft.tick_over (noFail : s.cfg.leafCanFail = false) (h : s.PulseLeft i 1) :
    (s.tickStep x).WaitBegun i x.echo := by
  obtain ⟨-, pulse, idx, ctr⟩ := h
  obtain ⟨cfg, us, usTune, -⟩ := s.beforeEngine_frame x
  have runOut : s.us.ctr - 1 = 0 := BitVec.eq_of_toNat_eq (toNat_sub_one_of_succ ctr)
  rw [State.tickStep, State.engineTick_pulse_over (usTune ▸ unlimited) (us ▸ pulse) (us ▸ runOut)
    (.of_cfg_eq cfg noFail 1), us]
  exact ⟨rfl, rfl, idx, rfl, rfl⟩

end tick

/-! ### The ticks from the gap to the wait -/

theorem State.afterTicks_concat (s : State) (samples : List Sample) (x : Sample) :
    s.afterTicks (samples ++ [x]) = (s.afterTicks samples).tickStep x :=
  List.foldl_concat ..

/-- Ticks leave the parameters and the engine's tunables. -/
theorem State.afterTicks_tunables (s : State) (samples : List Sample) :
    (s.afterTicks samples).cfg = s.cfg ∧ (s.afterTicks samples).usTune = s.usTune := by
  induction samples generalizing s with
  | nil => exact ⟨rfl, rfl⟩
  | cons x samples ih =>
    obtain ⟨cfg, usTune⟩ := s.tickStep_tunables x
    obtain ⟨cfgs, usTunes⟩ := ih (s.tickStep x)
    exact ⟨cfgs.trans cfg, usTunes.trans usTune⟩

/-- From a gap of `g` ticks on, TRIG is low for `g` ticks and then high for TRIG_TICKS ticks
(44_ultrasound.md R266, R267). -/
theorem State.afterTicks_gap_pulse {s : State} {g : Nat} {i : BitVec 8}
    (noFail : s.cfg.leafCanFail = false) (unlimited : s.usTune.overall = 0) (start : s.GapLeft i g)
    (samples : List Sample) :
    (samples.length ≤ g → (s.afterTicks samples).GapLeft i (g - samples.length)) ∧
    (g + 1 ≤ samples.length → samples.length ≤ g + s.cfg.trigTicks.toNat →
      (s.afterTicks samples).PulseLeft (i + 1)
        (g + 1 + s.cfg.trigTicks.toNat - samples.length)) := by
  induction samples using List.reverseRecOn with
  | nil => exact ⟨fun _ => start, fun h => absurd h (Nat.not_succ_le_zero g)⟩
  | append_singleton samples x ih =>
    obtain ⟨inGap, inPulse⟩ := ih
    obtain ⟨cfg, usTune⟩ := s.afterTicks_tunables samples
    rw [← cfg] at noFail
    rw [← usTune] at unlimited
    simp only [State.afterTicks_concat, List.length_append, List.length_singleton]
    refine ⟨fun within => ?gap, fun past within => ?pulse⟩
    case gap =>
      apply State.GapLeft.tick unlimited x
      rw [show g - (samples.length + 1) + 1 = g - samples.length by omega]
      exact inGap (by omega)
    case pulse =>
      obtain first | later : samples.length = g ∨ g + 1 ≤ samples.length := by omega
      · have runOut : (s.afterTicks samples).GapLeft i 0 := by
          simpa only [first, Nat.sub_self] using inGap first.le
        have begun := State.GapLeft.tick_over unlimited x noFail runOut
        rwa [cfg, show s.cfg.trigTicks.toNat =
          g + 1 + s.cfg.trigTicks.toNat - (samples.length + 1) by omega] at begun
      · apply State.PulseLeft.tick unlimited x (by omega)
        rw [show g + 1 + s.cfg.trigTicks.toNat - (samples.length + 1) + 1 =
          g + 1 + s.cfg.trigTicks.toNat - samples.length by omega]
        exact inPulse later (by omega)

/-- Settles O47: gap and pulse are `State.afterTicks_gap_pulse`, and the tick after them is the last
one of the pulse (`State.PulseLeft.tick_over`). -/
theorem triggerPulseLastsItsTicks : Obligations.TriggerPulseLastsItsTicks := by
  intro s samples x noFail ticks gap low unlimited g n t
  have start : s.GapLeft s.us.idx g := ⟨low, gap, rfl, rfl⟩
  have length : (samples ++ [x]).length = n := List.length_append
  obtain ⟨inGap, inPulse⟩ :=
    State.afterTicks_gap_pulse noFail unlimited start (samples ++ [x])
  rw [length] at inGap inPulse
  refine ⟨inGap, inPulse, fun last => ?_⟩
  have some_tick : s.cfg.trigTicks.toNat ≠ 0 := fun zero => ticks (BitVec.eq_of_toNat_eq zero)
  have ended : samples.length = g + s.cfg.trigTicks.toNat := by omega
  obtain ⟨-, pulse⟩ := State.afterTicks_gap_pulse noFail unlimited start samples
  have lastTick : (s.afterTicks samples).PulseLeft (s.us.idx + 1) 1 := by
    have left := pulse (by omega) ended.le
    rwa [show g + 1 + s.cfg.trigTicks.toNat - samples.length = 1 by omega] at left
  obtain ⟨cfg, usTune⟩ := s.afterTicks_tunables samples
  rw [show t = _ from s.afterTicks_concat samples x]
  exact State.PulseLeft.tick_over (usTune ▸ unlimited) x (cfg ▸ noFail) lastTick

end Sys2Proof.Machine

/-! SUPPORT. NOP and the resets (45_system.md R303, R304): what a step does with a word that is no
command and with a pulse of the reset pin, that a word of NOP's opcode with another bit set is no
command, and that the state both resets leave holds the reset values of 10_state.md R44. Settles
the statements O12 and O7. -/

namespace Sys2Proof

/-! ### Words of NOP's opcode -/

/-- Opcode 0x00 is NOP's, of format Z (30_encoding.md R95). -/
theorem decodeFields_nop {f : Fields} (h : f.opc = 0) : decodeFields f = fmtZ f .nop := by
  obtain ⟨opc, a, b, h2, h1, h0⟩ := f
  subst h
  rfl

/-- A word with NOP's opcode and any other bit set is refused for its reserved bits: the fields put
together again are the word (30_encoding.md R96 (b)). -/
theorem decode_nop_reserved {cw : W64} (opcode : (fieldsOf cw).opc = 0) (nonzero : cw ≠ 0) :
    decode cw = .error (.reservedBits 0) := by
  rw [decode, decodeFields_nop opcode, fmtZ, legalIf_error, opcode]
  refine ⟨Bool.eq_false_iff.mpr fun zero => nonzero ?_, rfl⟩
  simp only [Bool.and_eq_true, beq_iff_eq] at zero
  obtain ⟨⟨⟨⟨a, b⟩, h2⟩, h1⟩, h0⟩ := zero
  rw [← pack_fieldsOf cw, opcode, a, b, h2, h1, h0]
  rfl

end Sys2Proof

namespace Sys2Proof.Machine

/-! ### The input a step takes -/

section offered
variable {s s' : State}

/-- What the environment offers is the input the step takes. -/
theorem State.Offers.nextInput_eq {x : Input} (h : s.Offers x s') : s.nextInput = (x, s') := by
  rcases h with ⟨rest, pending, rfl⟩ | ⟨usedUp, rfl, rfl⟩
  · simp only [State.nextInput, pending]
  · simp only [State.nextInput, usedUp]

/-- An offered word that is no command ends as InvalidCommand with its opcode (30_encoding.md
R96). -/
theorem step_illegalWord {cw : W64} {e : DecodeError} (h : s.Offers (.command cw) s')
    (illegal : decode cw = .error e) :
    step s = .next (s'.afterError cw .invalidCommand (zext32 (decodeErrorOpcode e))) := by
  simp only [step, h.nextInput_eq, illegal, State.illegalWord, State.endFailed_eq]

/-- An offered pulse of the reset pin leaves the reset values with an empty bus trace
(70_reset_and_hazards.md R360). -/
theorem step_rst (h : s.Offers .rst s') : step s = .next (State.inert s'.cfg s'.env []) := by
  simp only [step, h.nextInput_eq, State.hardReset]

/-- Taking an input leaves the parameters. -/
theorem State.Offers.cfg_eq {x : Input} (h : s.Offers x s') : s'.cfg = s.cfg := by
  rcases h with ⟨_, _, rfl⟩ | ⟨_, _, rfl⟩
  · rfl
  · rfl

end offered

/-! ### NOP -/

/-- NOP has no check and no effect: it ends OK with value 0 (45_system.md R304). -/
theorem exec_nop (s : State) : exec .nop s = .next (s.afterOk 0) := by
  show execNop s = _
  rw [execNop, command_admitted (firstFailure_nil s), Run.retire_none]

/-- Settles O7: `exec_nop`, and for a nonzero word of NOP's opcode `decode_nop_reserved`. -/
theorem nopOnlyCounts : Obligations.NopOnlyCounts :=
  ⟨rfl, rfl, exec_nop, fun _ _ _ offered opcode nonzero =>
    step_illegalWord offered (decode_nop_reserved opcode nonzero)⟩

/-! ### The reset values -/

section reset
variable (cfg : Config) (env : Env) (trace : List BusWrite)

/-- No slot is subscribed to an event and none has one pending, whether its number has a slot or
not. -/
theorem State.inert_slot (i : Nat) : (State.inert cfg env trace).slot i = ⟨0, 0⟩ :=
  List.getElem?_getD_replicate_default_eq _ _ _

/-- The state every reset leaves holds the reset values of 10_state.md R44, whatever the parameters
are. -/
theorem State.inert_atResetValues : (State.inert cfg env trace).AtResetValues where
  ident := rfl
  sequence := ⟨rfl, rfl⟩
  record := rfl
  motors := Pair.get_all _
  motorLine := rfl
  buttons := rfl
  buttonTunables := rfl
  channels := Quad.get_all _
  leds := Quad.get_all _
  blink := ⟨rfl, rfl⟩
  slots := ⟨List.length_replicate, State.inert_slot cfg env trace⟩
  counts := Quad.get_all _
  bus := rfl
  frame _ := rfl
  stage _ := rfl
  usTunables := rfl
  engine := rfl
  trigLine := rfl
  lines := ⟨fun i => by rw [State.irqSub, State.inert_slot]; rfl, rfl, rfl⟩

end reset

/-- SRST leaves the reset values, keeps the bus trace and the parameters, and answers OK with value
0 (45_system.md R303). -/
theorem exec_srst (s : State) :
    exec .srst s =
      .next (State.inert s.cfg { s.env with responses := s.env.responses ++ [0] } s.trace) := rfl

/-- Settles O12: SRST (`exec_srst`), the reset pin (`step_rst`) and State.reset all leave a state of
the form of `State.inert_atResetValues`. -/
theorem resetsRestoreTheResetValues : Obligations.ResetsRestoreTheResetValues := by
  refine ⟨fun s => ?srst, fun s s' offered => ?pin, ?initial, rfl, rfl⟩
  case srst => exact ⟨_, exec_srst s, State.inert_atResetValues _ _ _, rfl, rfl, rfl⟩
  case pin => exact ⟨_, step_rst offered, State.inert_atResetValues _ _ _, rfl, offered.cfg_eq, rfl⟩
  case initial => exact State.inert_atResetValues _ _ _

end Sys2Proof.Machine

/-! SUPPORT. How every command ends (45_system.md section 1, 60_exceptions.md R325, R330): until it
ends, no command touches CMDSEQ, the error record or the responses, and none raises OK as an error;
so it ends with exactly one of `State.afterOk` and `State.afterError`. Settles the statement O55. -/

namespace Sys2Proof.Machine

/-! ### What only the end of a command writes -/

/-- CMDSEQ, the error record and the responses returned are in `t` as in `s`. -/
structure State.SameRecord (s t : State) : Prop where
  cmdseq : t.cmdseq = s.cmdseq
  err : t.err = s.err
  responses : t.env.responses = s.env.responses

namespace State.SameRecord

theorem refl (s : State) : s.SameRecord s := ⟨rfl, rfl, rfl⟩

theorem trans {s t u : State} (h : s.SameRecord t) (k : t.SameRecord u) : s.SameRecord u :=
  ⟨k.cmdseq.trans h.cmdseq, k.err.trans h.err, k.responses.trans h.responses⟩

/-- I2C_OPEN is not part of the record. -/
theorem withBus {s t : State} (h : s.SameRecord t) (isOpen : Bool) :
    s.SameRecord { t with i2cOpen := isOpen } := ⟨h.cmdseq, h.err, h.responses⟩

theorem leaf (s : State) (op : LeafOp) : s.SameRecord (s.leaf op).1 :=
  ⟨s.leaf_cmdseq op, s.leaf_err op, s.leaf_responses op⟩

theorem memWrite (s : State) (space : Space) (i : Nat) (v : Byte) :
    s.SameRecord (s.memWrite space i v) := by
  rcases s.memWrite_cases space i v with ⟨_, _, e⟩ | ⟨_, _, e⟩ | e
  all_goals
    rw [e]
    exact ⟨rfl, rfl, rfl⟩

/-- A change of FRAME alone, as the setters of 43_underlight.md R239 make it. -/
theorem of_frame {s t : State} {f : Memory} (h : t = { s with frame := f }) : s.SameRecord t := by
  rw [h]
  exact ⟨rfl, rfl, rfl⟩

theorem setLight (s : State) (l : Fin 6) (r g b : Byte) : s.SameRecord (s.setLight l r g b) := by
  obtain ⟨f, changed, _⟩ := s.setLight_spec l r g b
  exact of_frame changed

theorem setAllLights (s : State) (r g b : Byte) : s.SameRecord (s.setAllLights r g b) := by
  obtain ⟨f, changed, _⟩ := s.setAllLights_spec r g b
  exact of_frame changed

theorem clearFrame (s : State) : s.SameRecord s.clearFrame := by
  obtain ⟨f, changed, _⟩ := s.clearFrame_spec
  exact of_frame changed

theorem writeTunable (s : State) (t : Tunable) (v : W32) : s.SameRecord (s.writeTunable t v) := by
  cases t with
  | btnEn =>
    rw [State.writeTunable]
    split
    · exact ⟨rfl, rfl, rfl⟩
    · exact ⟨rfl, rfl, rfl⟩
  | btnDebounce | btnDpwin | btnHoldmin => exact ⟨rfl, rfl, rfl⟩
  | usOffset | usSampleTo | usOverall | usGap => exact ⟨rfl, rfl, rfl⟩

theorem tryWrites (writes : List (List Byte)) (s : State) (k : Nat) :
    s.SameRecord (s.tryWrites writes k).1 := by
  induction writes generalizing s k with
  | nil => exact refl s
  | cons w rest ih => exact (leaf s _).trans (ih _ (k + 1))

end State.SameRecord

/-! ### Failures and the checks that report them -/

/-- A failure, if there is one, has an error status. -/
def OnlyErrors (o : Option Failure) : Prop := ∀ f, o = some f → f.status ≠ .ok

theorem onlyErrors_none : OnlyErrors none := nofun

theorem onlyErrors_some {f : Failure} (h : f.status ≠ .ok) : OnlyErrors (some f) :=
  fun _ e => Option.some.inj e ▸ h

theorem onlyErrors_ite {c : Prop} [Decidable c] {o p : Option Failure} (ho : OnlyErrors o)
    (hp : OnlyErrors p) : OnlyErrors (if c then o else p) := by
  split
  · exact ho
  · exact hp

theorem notFatal_onlyErrors (s : State) : OnlyErrors (notFatal s) :=
  onlyErrors_ite (onlyErrors_some nofun) onlyErrors_none

theorem busOpen_onlyErrors (s : State) : OnlyErrors (busOpen s) :=
  onlyErrors_ite onlyErrors_none (onlyErrors_some nofun)

theorem busClosed_onlyErrors (s : State) : OnlyErrors (busClosed s) :=
  onlyErrors_ite (onlyErrors_some nofun) onlyErrors_none

theorem engineIdle_onlyErrors (s : State) : OnlyErrors (engineIdle s) :=
  onlyErrors_ite (onlyErrors_some nofun) onlyErrors_none

theorem resultWaiting_onlyErrors (s : State) : OnlyErrors (resultWaiting s) :=
  onlyErrors_ite onlyErrors_none (onlyErrors_some nofun)

theorem registerExists_onlyErrors (reg : W16) (s : State) : OnlyErrors (registerExists reg s) := by
  rw [registerExists]
  split
  · exact onlyErrors_none
  · exact onlyErrors_some nofun

theorem registerWritable_onlyErrors (reg : W16) (s : State) :
    OnlyErrors (registerWritable reg s) := by
  rw [registerWritable]
  split
  · exact onlyErrors_none
  · exact onlyErrors_some nofun

theorem writeAllowed_onlyErrors (reg : W16) (v : W32) (s : State) :
    OnlyErrors (writeAllowed reg v s) := by
  rw [writeAllowed]
  cases tunableOfNumber reg with
  | none => exact onlyErrors_none
  | some t =>
    cases t with
    | btnEn => exact onlyErrors_ite (onlyErrors_some nofun) onlyErrors_none
    | btnDebounce | btnDpwin | btnHoldmin => exact onlyErrors_none
    | usOffset | usSampleTo | usOverall | usGap => exact engineIdle_onlyErrors s

theorem OnlyErrors.nil (s : State) : OnlyErrors (firstFailure [] s) := onlyErrors_none

theorem OnlyErrors.cons {s : State} {c : Check} {rest : List Check} (hc : OnlyErrors (c s))
    (hrest : OnlyErrors (firstFailure rest s)) : OnlyErrors (firstFailure (c :: rest) s) := by
  rw [firstFailure]
  split
  next reported => exact reported ▸ hc
  next => exact hrest

/-- The check of FATAL, which stands before the checks of state (60_exceptions.md R325). -/
theorem OnlyErrors.fatalThen {s : State} {rest : List Check}
    (hrest : OnlyErrors (firstFailure rest s)) : OnlyErrors (firstFailure (notFatal :: rest) s) :=
  .cons (notFatal_onlyErrors s) hrest

/-! ### A command under way -/

/-- A run of a command given in state `s` that has not ended: nothing of the record is written,
and a failure it has raised is not OK. -/
structure Run.Unended (s : State) (r : Run) : Prop where
  record : s.SameRecord r.state
  raised : OnlyErrors r.failure

theorem Run.start_unended (s : State) : (Run.start s).Unended s :=
  ⟨State.SameRecord.refl s, onlyErrors_none⟩

namespace Run.Unended
variable {s : State} {r : Run}

/-- A step that a raised failure skips, like every `andThen`, is looked at only where none is. -/
theorem andThen (h : r.Unended s) {g : Run → Run} (hg : (g r).Unended s) :
    (r.andThen g).Unended s := by
  rw [Run.andThen]
  split
  · exact hg
  · exact h

theorem write (h : r.Unended s) {g : State → State} (hg : r.state.SameRecord (g r.state)) :
    (r.write g).Unended s :=
  h.andThen ⟨h.record.trans hg, h.raised⟩

theorem engine (h : r.Unended s) (g : Engine → Engine) : (r.engine g).Unended s :=
  h.write ⟨rfl, rfl, rfl⟩

theorem answer (h : r.Unended s) (v : State → W32) : (r.answer v).Unended s :=
  h.andThen ⟨h.record, h.raised⟩

theorem raise (h : r.Unended s) {e : Status} {info : W32} (he : e ≠ .ok) :
    (r.raise ⟨e, info⟩).Unended s :=
  h.andThen ⟨h.record, onlyErrors_some he⟩

theorem raiseIf (h : r.Unended s) (c : Bool) {e : Status} {info : W32} (he : e ≠ .ok) :
    (r.raiseIf c ⟨e, info⟩).Unended s := by
  cases c with
  | false => exact h
  | true => exact h.raise he

theorem leaf (h : r.Unended s) (op : LeafOp) : (r.leaf op).Unended s := by
  have record := h.record.trans (State.SameRecord.leaf r.state op)
  have transport : Status.transportFailure ≠ .ok := nofun
  rcases r.leaf_cases op with ⟨_, e⟩ | ⟨_, _, e⟩ | ⟨_, _, e⟩
  all_goals rw [e]
  · exact h
  · exact ⟨record, h.raised⟩
  · exact ⟨record, onlyErrors_some transport⟩

theorem leaves (h : r.Unended s) (ops : List LeafOp) : (r.leaves ops).Unended s := by
  induction ops generalizing r with
  | nil => exact h
  | cons op ops ih => exact ih (h.leaf op)

/-- A selector out of its range raises InvalidInput; the work on an index in range is looked at
where it starts. -/
theorem withSelector (h : r.Unended s) {n : Nat} {sel : BitVec 4} {info : W32}
    {k : Fin n → Run → Run} (hk : ∀ i, (k i r).Unended s) :
    (r.withSelector n sel info k).Unended s := by
  rw [Run.withSelector]
  split
  · exact h.andThen (hk _)
  · exact h.raise nofun

/-! The steps the families share are made of these. -/

theorem setSpeed (h : r.Unended s) (m : Fin 2) (v : Int) : (r.setSpeed m v).Unended s :=
  (h.write ⟨rfl, rfl, rfl⟩).leaves _

theorem setSpeeds (h : r.Unended s) (left right : Int) : (r.setSpeeds left right).Unended s :=
  (h.setSpeed 0 left).setSpeed 1 right

theorem i2c (h : r.Unended s) (bytes : List Byte) : (r.i2c bytes).Unended s := h.leaf _

theorem output (h : r.Unended s) (vs : List Byte) : (r.output vs).Unended s :=
  (h.i2c _).i2c _

theorem checkLength (h : r.Unended s) (len : W16) : (r.checkLength len).Unended s :=
  h.raiseIf _ nofun

theorem checkIndex (h : r.Unended s) (idx : W16) : (r.checkIndex idx).Unended s :=
  h.raiseIf _ nofun

theorem checkRgb (h : r.Unended s) (red green blue : W16) :
    (r.checkRgb red green blue).Unended s :=
  have invalid : Status.invalidInput ≠ .ok := nofun
  ((h.raiseIf _ invalid).raiseIf _ invalid).raiseIf _ invalid

theorem showFrame (h : r.Unended s) : r.showFrame.Unended s := h.andThen ((h.output _).i2c _)

theorem showIf (h : r.Unended s) (showNow : Bool) : (r.showIf showNow).Unended s := by
  cases showNow with
  | false => exact h
  | true => exact h.showFrame

theorem releaseOnFailure (h : r.Unended s) : r.releaseOnFailure.Unended s := by
  rw [Run.releaseOnFailure]
  split
  · exact h
  · exact ⟨h.record.withBus false, h.raised⟩

theorem finish (h : r.Unended s) : r.finish.Unended s := (h.leaf _).engine _

/-- UGET raises an error status for every result but a distance (44_ultrasound.md R262). -/
theorem readOutcome (h : r.Unended s) : r.readOutcome.Unended s := by
  rw [Run.readOutcome]
  split
  · exact h.answer _
  all_goals exact h.raise nofun

end Run.Unended

/-! ### The end of a command -/

/-- `o` is the one end of command `i` given in state `s`: from a state with the record of `s`, with
OK or with an error status. -/
def State.EndsOnce (s : State) (i : Instr) (o : Host.Outcome State Fault Refusal) : Prop :=
  ∃ t, s.SameRecord t ∧
    ((∃ v, o = .next (t.afterOk v)) ∨
      ∃ e info, e ≠ .ok ∧ o = .next (t.afterError (encode i) e info))

/-- A command whose checks report errors only, and whose pseudocode leaves its end to
`Run.retire`, ends once. -/
theorem command_endsOnce {s : State} {i : Instr} {checks : List Check} {body : Run → Run}
    (hchecks : OnlyErrors (firstFailure checks s)) (hbody : (body (Run.start s)).Unended s) :
    s.EndsOnce i (command i checks body s) := by
  rcases command_cases i checks body s with ⟨f, refused, e⟩ | ⟨_, e⟩
  · exact ⟨s, State.SameRecord.refl s, .inr ⟨_, _, hchecks f refused, e⟩⟩
  · refine ⟨_, hbody.record, ?_⟩
    rcases (body (Run.start s)).retire_cases (encode i) with ⟨_, ended⟩ | ⟨f, raised, ended⟩
    · exact .inl ⟨_, e.trans (congrArg _ ended)⟩
    · exact .inr ⟨_, _, hbody.raised f raised, e.trans (congrArg _ ended)⟩

/-- Everything a command but SRST can do: it ends once. Its checks and its pseudocode are followed
step by step. -/
theorem exec_endsOnce (s : State) (i : Instr) (h : i ≠ .srst) : s.EndsOnce i (exec i s) := by
  have start := Run.start_unended s
  have fatal : OnlyErrors (firstFailure [notFatal] s) := .fatalThen (.nil s)
  have bus : OnlyErrors (firstFailure [notFatal, busOpen] s) :=
    .fatalThen (.cons (busOpen_onlyErrors s) (.nil s))
  cases i with
  | srst => exact absurd rfl h
  | nop =>
    rw [exec, execNop]
    exact command_endsOnce (.nil s) start
  | rd reg =>
    rw [exec, execRd]
    refine command_endsOnce (.cons (registerExists_onlyErrors reg s) (.nil s)) ?_
    split
    · exact start.answer _
    · exact start
  | wr reg value =>
    rw [exec, execWr]
    refine command_endsOnce (.cons (registerWritable_onlyErrors reg s)
      (.fatalThen (.cons (writeAllowed_onlyErrors reg value s) (.nil s)))) ?_
    split
    · exact (start.write (.writeTunable _ _ _)).answer _
    · exact start
  | mset motor speed =>
    rw [exec, execMset]
    exact command_endsOnce fatal (start.withSelector fun m => start.setSpeed m _)
  | mboth | mfwd | mbwd | mtl | mtr | mcfl | mcfr | mcbl | mcbr | mstop =>
    simp only [exec, execMboth, execMfwd, execMbwd, execMtl, execMtr, execMcfl, execMcfr,
      execMcbl, execMcbr, execMstop]
    exact command_endsOnce fatal (start.setSpeeds _ _)
  | mdis | mcoast =>
    simp only [exec, execMdis, execMcoast]
    exact command_endsOnce fatal (start.leaves _)
  | bled | bledb =>
    simp only [exec, execBled, execBledb]
    exact command_endsOnce fatal (start.withSelector fun _ => start.leaf _)
  | bledall | bledallb =>
    simp only [exec, execBledall, execBledallb]
    exact command_endsOnce fatal (start.leaves _)
  | bhold =>
    rw [exec, execBhold]
    exact command_endsOnce fatal (start.withSelector fun _ => start.answer _)
  | bsub | bunsub =>
    simp only [exec, execBsub, execBunsub]
    exact command_endsOnce fatal
      (start.withSelector fun _ => (start.write ⟨rfl, rfl, rfl⟩).answer _)
  | back =>
    rw [exec, execBack]
    exact command_endsOnce fatal
      (start.withSelector fun _ => (start.answer _).write ⟨rfl, rfl, rfl⟩)
  | bblink =>
    rw [exec, execBblink]
    exact command_endsOnce fatal ((start.leaves _).write ⟨rfl, rfl, rfl⟩)
  | snen | sndis | snrst | snupd =>
    simp only [exec, execSnen, execSndis, execSnrst, execSnupd]
    exact command_endsOnce bus (start.i2c _)
  | snmask =>
    rw [exec, execSnmask]
    exact command_endsOnce bus ((start.i2c _).i2c _)
  | snout len | snoutr len =>
    simp only [exec, execSnout, execSnoutr]
    exact command_endsOnce bus ((start.checkLength len).output _)
  | stw idx byte =>
    rw [exec, execStw]
    exact command_endsOnce fatal ((start.checkIndex idx).write (.memWrite _ _ _ _))
  | str idx =>
    rw [exec, execStr]
    exact command_endsOnce fatal ((start.checkIndex idx).answer _)
  | uinit =>
    rw [exec, execUinit]
    refine command_endsOnce (.fatalThen (.cons (busClosed_onlyErrors s) (.nil s)))
      (((((start.write ?_).i2c _).i2c _).i2c _).i2c _).releaseOnFailure
    exact ((State.SameRecord.refl s).withBus true).trans (.clearFrame _)
  | ufini =>
    rw [exec, execUfini]
    refine command_endsOnce bus ((start.write ?_).raiseIf _ nofun)
    exact ((State.SameRecord.clearFrame s).trans (.tryWrites (finiWrites s.cfg) _ 0)).withBus false
  | uset light showNow r g b =>
    rw [exec, execUset]
    exact command_endsOnce bus (start.withSelector fun _ =>
      ((start.checkRgb r g b).write (.setLight _ _ _ _ _)).showIf showNow)
  | ufill showNow r g b =>
    rw [exec, execUfill]
    exact command_endsOnce bus
      (((start.checkRgb r g b).write (.setAllLights _ _ _ _)).showIf showNow)
  | uclr light showNow =>
    rw [exec, execUclr]
    exact command_endsOnce bus (start.withSelector fun _ =>
      (start.write (.setLight _ _ _ _ _)).showIf showNow)
  | uclrall showNow =>
    rw [exec, execUclrall]
    exact command_endsOnce bus ((start.write (.setAllLights _ _ _ _)).showIf showNow)
  | ushow =>
    rw [exec, execUshow]
    exact command_endsOnce bus start.showFrame
  | uhsv light showNow =>
    rw [exec, execUhsv]
    exact command_endsOnce bus (start.withSelector fun _ =>
      ((start.write (.setLight _ _ _ _ _)).showIf showNow).answer _)
  | ufillhsv showNow =>
    rw [exec, execUfillhsv]
    exact command_endsOnce bus
      (((start.write (.setAllLights _ _ _ _)).showIf showNow).answer _)
  | urd n =>
    rw [exec, execUrd]
    refine command_endsOnce (.fatalThen (.cons (engineIdle_onlyErrors s) (.nil s))) ?_
    split
    · exact (start.engine _).finish
    · exact (start.engine _).engine _
  | ucancel =>
    rw [exec, execUcancel]
    refine command_endsOnce fatal ?_
    split
    · exact start
    · exact ((start.leaf _).engine _).answer _
  | uget =>
    rw [exec, execUget]
    exact command_endsOnce
      (.fatalThen (.cons (engineIdle_onlyErrors s) (.cons (resultWaiting_onlyErrors s) (.nil s))))
      (start.engine _).readOutcome

/-- The error record of a failed command, with FATAL as a disjunction (60_exceptions.md R330). -/
theorem State.afterError_err (s : State) (cw : W64) (e : Status) (info : W32) :
    (s.afterError cw e info).err =
      ⟨e, s.cmdseq, cw, info, s.err.fatal || decide (e = .transportFailure)⟩ := by
  rw [State.afterError]
  split
  next transport => simp only [transport, decide_true, Bool.or_true]
  next other => simp only [other, decide_false, Bool.or_false]

/-- Settles O55: SRST by `exec_srst`; every other command ends once (`exec_endsOnce`), and its one
end counts, responds and loads the record as R330 says. -/
theorem everyCommandEndsOnce : Obligations.EveryCommandEndsOnce := by
  refine ⟨rfl, fun s i => ?_⟩
  by_cases srst : i = .srst
  · subst srst
    exact ⟨_, .ok, 0, exec_srst s, rfl, absurd rfl, fun _ => ⟨rfl, rfl, rfl⟩,
      fun _ counts => absurd rfl counts, absurd rfl⟩
  · obtain ⟨t, same, ⟨v, ended⟩ | ⟨e, info, error, ended⟩⟩ := exec_endsOnce s i srst
    · refine ⟨_, .ok, v, ended, ?_, fun _ => ?_, fun is => absurd is srst, fun _ _ => same.err,
        absurd rfl⟩
      · exact congrArg (· ++ _) same.responses
      · exact congrArg (· + 1) same.cmdseq
    · refine ⟨_, e, info, ended, ?_, fun _ => ?_, fun is => absurd is srst,
        fun ok => absurd ok error, fun _ => ?_⟩
      · exact congrArg (· ++ _) same.responses
      · exact congrArg (· + 1) same.cmdseq
      · rw [State.afterError_err, same.cmdseq, same.err]

end Sys2Proof.Machine

/-! SUPPORT. Failing PWM and GPIO leaf operations (60_exceptions.md R330, R331): a command is cut at
its first leaf operation that fails, whatever register writes stand between its leaf operations. The
motor, LED and blink commands, URD 0 and UCANCEL as rows of leaf operations. Settles the statement
O18. -/

namespace Sys2Proof.Machine

/-! ### Register writes and leaf operations as steps of a command -/

/-- A write of registers: neither the parameters nor the environment's record has a part in it. -/
structure RegisterWrite (w : State → State) : Prop where
  cfg : ∀ t, (w t).cfg = t.cfg
  env : ∀ t e, w { t with env := e } = { w t with env := e }

theorem RegisterWrite.env_eq {w : State → State} (h : RegisterWrite w) (t : State) :
    (w t).env = t.env := by
  have kept : w t = { w t with env := t.env } := h.env t t.env
  rw [kept]

theorem RegisterWrite.comp {w w' : State → State} (h : RegisterWrite w) (h' : RegisterWrite w') :
    RegisterWrite fun t => w (w' t) where
  cfg t := (h.cfg _).trans (h'.cfg t)
  env t e := (congrArg w (h'.env t e)).trans (h.env _ e)

theorem storeSpeed_registerWrite (m : Fin 2) (c : Int) :
    RegisterWrite fun t => t.storeSpeed m c := ⟨fun _ => rfl, fun _ _ => rfl⟩

theorem driveGpio_registerWrite (l : GpioLine) (b : Bool) :
    RegisterWrite fun t => t.driveGpio l b := by
  cases l with
  | motorEn | trig => exact ⟨fun _ => rfl, fun _ _ => rfl⟩

theorem drivePwm_registerWrite (ch : PwmChannel) (d : W16) :
    RegisterWrite fun t => t.drivePwm ch d := by
  cases ch with
  | lp | ln | rp | rn | led => exact ⟨fun _ => rfl, fun _ _ => rfl⟩

/-- A run after a leaf operation with the given answer, in the state `s` it leaves
(00_scope.md R9). -/
def Run.answered (s : State) (k : Nat) (v : W32) : Answer → Run
  | .ok => ⟨s, k + 1, none, v⟩
  | .fail => ⟨s, k, some ⟨.transportFailure, BitVec.ofNat 32 k⟩, v⟩

/-- With LEAF_CAN_FAIL, `g` is one leaf operation of a command with the register writes the command
makes before it, and `w` is what all of them write. -/
structure LeafStep (g : Run → Run) (w : State → State) : Prop where
  effect : RegisterWrite w
  made : ∀ s k v, s.cfg.leafCanFail = true →
    g ⟨s, k, none, v⟩ = Run.answered (w s).countAsked k v (s.answerAt s.env.asked)
  stop : ∀ s k f v, g ⟨s, k, some f, v⟩ = ⟨s, k, some f, v⟩

theorem LeafStep.of_leaf {op : LeafOp} (h : RegisterWrite fun t => t.driveLeaf op) :
    LeafStep (fun r => r.leaf op) fun t => t.driveLeaf op := by
  refine ⟨h, fun s k v hc => ?_, fun _ _ _ _ => rfl⟩
  have asks : op.asks s.cfg = true := by
    cases op with
    | pwmSet | gpioWrite => exact hc
    | i2cWrite => rfl
  have leaf := s.leaf_eq op
  rw [if_pos asks] at leaf
  cases answer : s.answerAt s.env.asked with
  | ok => exact Run.leaf_ok (answer ▸ leaf)
  | fail => exact Run.leaf_fail (answer ▸ leaf)

theorem LeafStep.pwm (ch : PwmChannel) (d : W16) :
    LeafStep (fun r => r.leaf (.pwmSet ch d)) fun t => t.drivePwm ch d :=
  .of_leaf (drivePwm_registerWrite ch d)

theorem LeafStep.gpio (l : GpioLine) (b : Bool) :
    LeafStep (fun r => r.leaf (.gpioWrite l b)) fun t => t.driveGpio l b :=
  .of_leaf (driveGpio_registerWrite l b)

/-- A register write before a leaf operation is made whatever that operation's answer is. -/
theorem LeafStep.after {g : Run → Run} {w w' : State → State} (h : LeafStep g w)
    (hw : RegisterWrite w') : LeafStep (fun r => g (r.write w')) fun t => w (w' t) where
  effect := h.effect.comp hw
  made s k v hc := by
    have answer : (w' s).answerAt (w' s).env.asked = s.answerAt s.env.asked := by
      rw [State.answerAt, State.answerAt, hw.env_eq]
    rw [Run.write_none, h.made _ k v ((hw.cfg s).symm ▸ hc), answer]
  stop s k f v := h.stop s k f v

/-! ### A row of leaf operations of which one fails -/

/-- The answers left after the first. -/
theorem State.FailsAt.next {s t : State} {j : Nat} (h : s.FailsAt (j + 1))
    (ha : t.env.answers = s.env.answers) (hk : t.env.asked = s.env.asked + 1) : t.FailsAt j := by
  obtain ⟨oks, fails⟩ := h
  refine ⟨oks.next ha hk, ?_⟩
  rw [State.answerAt_congr ha, hk, Nat.add_assoc, Nat.add_comm 1]
  exact fails

/-- Steps after a raised failure do nothing. -/
theorem LeafStep.row_stop {gs : List (Run → Run)} {ws : List (State → State)}
    (row : List.Forall₂ LeafStep gs ws) (s : State) (k : Nat) (f : Failure) (v : W32) :
    gs.foldl (fun r g => g r) ⟨s, k, some f, v⟩ = ⟨s, k, some f, v⟩ := by
  induction row with
  | nil => rfl
  | cons h _ ih =>
    rw [List.foldl_cons, h.stop, ih]

/-- Steps of which leaf operation `j` is the first that fails: what they write up to and with it
stands, nothing after it is done (60_exceptions.md R331). -/
theorem LeafStep.row_fail {gs : List (Run → Run)} {ws : List (State → State)}
    (row : List.Forall₂ LeafStep gs ws) : ∀ (s : State) (e : Env) (k j : Nat) (v : W32),
    s.cfg.leafCanFail = true → j < ws.length → ({ s with env := e } : State).FailsAt j →
    gs.foldl (fun r g => g r) ⟨{ s with env := e }, k, none, v⟩ =
      ⟨{ (ws.take (j + 1)).foldl (fun t w => w t) s with
           env := { e with asked := e.asked + (j + 1) } },
        k + j, some ⟨.transportFailure, BitVec.ofNat 32 (k + j)⟩, v⟩ := by
  induction row with
  | nil => exact fun _ _ _ _ _ _ hj => absurd hj (Nat.not_lt_zero _)
  | @cons g w gs ws h rest ih =>
    intro s e k j v hc hj fails
    have written : (w { s with env := e }).countAsked =
        { w s with env := { e with asked := e.asked + 1 } } := by
      rw [h.effect.env]
      rfl
    obtain ⟨oks, failed⟩ := fails
    rw [List.foldl_cons, List.take_succ_cons, List.foldl_cons]
    cases j with
    | zero =>
      have answer : ({ s with env := e } : State).answerAt e.asked = .fail := failed
      rw [h.made { s with env := e } k v hc, answer, written]
      exact LeafStep.row_stop rest _ _ _ _
    | succ j =>
      have left : ({ w s with env := { e with asked := e.asked + 1 } } : State).FailsAt j :=
        State.FailsAt.next (s := { s with env := e }) ⟨oks, failed⟩ rfl rfl
      have on : (w s).cfg.leafCanFail = true := (h.effect.cfg s).symm ▸ hc
      have answer : ({ s with env := e } : State).answerAt e.asked = .ok := oks 0 (Nat.succ_pos j)
      have later := ih (w s) _ (k + 1) j v on (Nat.lt_of_succ_lt_succ hj) left
      rw [h.made { s with env := e } k v hc, answer, written]
      simpa only [Run.answered, Nat.add_assoc, Nat.add_comm 1] using later

/-- Command `i` ends at its first leaf operation that fails, with the number of that operation: of
`writes`, what each of its leaf operations writes, those up to that operation are made, from the
state `start` (60_exceptions.md R330, R331). -/
def State.CutAtLeaf (s : State) (i : Instr) (start : State) (writes : List (State → State)) :
    Prop :=
  ∀ k < writes.length, s.FailsAt k →
    exec i s =
      .next (({ (writes.take (k + 1)).foldl (fun t w => w t) start with
                env := { s.env with asked := s.env.asked + (k + 1) } } :
        State).afterError (encode i) .transportFailure (BitVec.ofNat 32 k))

/-- An admitted command whose pseudocode is steps, each with one leaf operation, and then `rest`,
which a raised failure skips, is cut at the first that fails. -/
theorem cutAtLeaf_of_row {s start : State} {i : Instr} {checks : List Check} {body : Run → Run}
    (pseudocode : exec i s = command i checks body s) (admitted : firstFailure checks s = none)
    {gs : List (Run → Run)} {ws : List (State → State)} (row : List.Forall₂ LeafStep gs ws)
    (hc : start.cfg.leafCanFail = true) (rest : Run → Run)
    (skipped : ∀ t k f v, rest ⟨t, k, some f, v⟩ = ⟨t, k, some f, v⟩)
    (steps : body ⟨s, 0, none, 0⟩ =
      rest (gs.foldl (fun r g => g r) ⟨{ start with env := s.env }, 0, none, 0⟩)) :
    s.CutAtLeaf i start ws := by
  intro k hk fails
  have stopped := LeafStep.row_fail row start s.env 0 k 0 hc hk fails
  rw [pseudocode, command_admitted admitted, steps, stopped, skipped, Run.retire_some, Nat.zero_add]

/-! ### The step `SetSpeed` -/

/-- What the three leaf operations of `SetSpeed` write when the motor is to be as in `x`; SPEED is
written before the first (40_motor.md R121). -/
def speedWrites (m : Fin 2) (x : Motor) : List (State → State) :=
  [fun t => { t with motors := t.motors.set m { t.motors.get m with speed := x.speed },
                     motorEn := true },
   fun t => { t with motors := t.motors.set m { t.motors.get m with dutyP := x.dutyP } },
   fun t => { t with motors := t.motors.set m { t.motors.get m with dutyN := x.dutyN } }]

/-- `SetSpeed` as steps, under parameters that do not change (40_motor.md R121). -/
def speedSteps (cfg : Config) (m : Fin 2) (v : Int) : List (Run → Run) :=
  [fun r => (r.write fun t => t.storeSpeed m (clampSpeed v)).leaf (.gpioWrite .motorEn true),
   fun r => r.leaf (.pwmSet (posLeg m) (dutyPair cfg (clampSpeed v)).1),
   fun r => r.leaf (.pwmSet (negLeg m) (dutyPair cfg (clampSpeed v)).2)]

theorem speedSteps_row (cfg : Config) (m : Fin 2) (v : Int) :
    List.Forall₂ LeafStep (speedSteps cfg m v) (speedWrites m (motorAt cfg v)) := by
  have enable := (LeafStep.gpio .motorEn true).after (storeSpeed_registerWrite m (clampSpeed v))
  have pos := LeafStep.pwm (posLeg m) (dutyPair cfg (clampSpeed v)).1
  have neg := LeafStep.pwm (negLeg m) (dutyPair cfg (clampSpeed v)).2
  rw [motorAt_eq]
  match m with
  | 0 => exact .cons enable (.cons pos (.cons neg .nil))
  | 1 => exact .cons enable (.cons pos (.cons neg .nil))

theorem Run.setSpeed_eq_steps (r : Run) (m : Fin 2) (v : Int) :
    r.setSpeed m v = (speedSteps r.state.cfg m v).foldl (fun r g => g r) r := rfl

theorem Run.setSpeed_cfg (r : Run) (m : Fin 2) (v : Int) :
    (r.setSpeed m v).state.cfg = r.state.cfg :=
  Run.leaves_keeps (P := fun t => t.cfg = r.state.cfg) (fun t op h => (t.leaf_cfg op).trans h) _ _
    (Run.write_keeps (P := fun t => t.cfg = r.state.cfg) r _ id rfl)

theorem Run.setSpeeds_eq_steps (r : Run) (left right : Int) :
    r.setSpeeds left right = (speedSteps r.state.cfg 0 left ++
      speedSteps r.state.cfg 1 right).foldl (fun r g => g r) r := by
  rw [List.foldl_append, ← Run.setSpeed_eq_steps, Run.setSpeeds,
    Run.setSpeed_eq_steps (r.setSpeed 0 left), Run.setSpeed_cfg]

/-! ### Operands and registers as the statement writes them -/

/-- The duty of an intensity operand, clamped over the integers (41_button.md R180). -/
theorem dutyOf_clampUnit (v : W16) :
    dutyOf (clampUnit (sext16 v)) = BitVec.ofInt 16 (max 0 (min v.toInt 16384)) := by
  rw [← clampUnit_eq_max_min, BitVec.ofInt_natCast]
  rfl

/-- The engine's registers after URD 0 began, when it was idle (44_ultrasound.md R261). -/
theorem startRead_zero_idle {u : Engine} (idle : u.st = .idle) :
    startRead 0 u = ⟨.idle, 0, 0, u.ctr, 0, 0, 0, false, 0, 0, .none, 0, false⟩ := by
  rw [startRead, idle]

/-- What UCANCEL does after its leaf operation (44_ultrasound.md R263). -/
def Run.endRead (r : Run) : Run :=
  (r.engine fun u => { u with st := .idle, res := .cancelled, dist := 0, done := true }).answer
    fun _ => 1

/-! ### The commands -/

section cut
variable {s : State} (hf : s.err.fatal = false) (hc : s.cfg.leafCanFail = true)
include hf hc

/-- A command whose only check is that of FATAL and whose pseudocode is steps with one leaf
operation each. -/
theorem cutAtLeaf_of_steps {i : Instr} {body : Run → Run}
    (pseudocode : exec i s = command i [notFatal] body s)
    {gs : List (Run → Run)} {ws : List (State → State)} (row : List.Forall₂ LeafStep gs ws)
    (steps : body ⟨s, 0, none, 0⟩ = gs.foldl (fun r g => g r) ⟨s, 0, none, 0⟩) :
    s.CutAtLeaf i s ws :=
  cutAtLeaf_of_row pseudocode (firstFailure_cons_none (notFatal_none hf)) row hc id
    (fun _ _ _ _ => rfl) steps

/-- MBOTH and the maneuvers that set speeds: LEFT before RIGHT (40_motor.md R125 to R134). -/
theorem cutAtLeaf_setSpeeds (i : Instr) (left right : Int)
    (pseudocode : exec i s = command i [notFatal] (fun r => r.setSpeeds left right) s) :
    s.CutAtLeaf i s (speedWrites 0 (motorAt s.cfg left) ++ speedWrites 1 (motorAt s.cfg right)) :=
  cutAtLeaf_of_steps hf hc pseudocode
    (List.rel_append (speedSteps_row s.cfg 0 left) (speedSteps_row s.cfg 1 right))
    (Run.setSpeeds_eq_steps _ left right)

theorem cutAtLeaf_mset {motor : BitVec 4} (v : W16) (h : motor.toNat < 2) :
    s.CutAtLeaf (.mset motor v) s (speedWrites ⟨motor.toNat, h⟩ (motorAt s.cfg v.toInt)) :=
  cutAtLeaf_of_steps hf hc (i := .mset motor v)
    (body := fun r => r.withSelector 2 motor (zext32 motor) fun m r => r.setSpeed m (sext16 v)) rfl
    (speedSteps_row s.cfg ⟨motor.toNat, h⟩ v.toInt) (Run.withSelector_ok s 0 0 _ _ h)

/-- MDIS and MCOAST: the enable line and the four legs (40_motor.md R124, R135). -/
theorem cutAtLeaf_disable (i : Instr)
    (pseudocode : exec i s = command i [notFatal] (fun r => r.disable) s) :
    s.CutAtLeaf i s
      [fun t => t.driveGpio .motorEn false, fun t => t.drivePwm .lp 0, fun t => t.drivePwm .ln 0,
       fun t => t.drivePwm .rp 0, fun t => t.drivePwm .rn 0] :=
  cutAtLeaf_of_steps hf hc pseudocode
    (.cons (.gpio .motorEn false) (.cons (.pwm .lp 0) (.cons (.pwm .ln 0) (.cons (.pwm .rp 0)
      (.cons (.pwm .rn 0) .nil))))) rfl

/-- BLED and BLEDB: one LED (41_button.md R180, R181). -/
theorem cutAtLeaf_led (i : Instr) {button : BitVec 4} (d : W16) (h : button.toNat < 4)
    (pseudocode : exec i s = command i [notFatal] (fun r =>
      r.withSelector 4 button (zext32 button) fun b r => r.leaf (.pwmSet (.led b) d)) s) :
    s.CutAtLeaf i s [fun t => t.drivePwm (.led ⟨button.toNat, h⟩) d] :=
  cutAtLeaf_of_steps hf hc pseudocode (.cons (.pwm _ d) .nil) (Run.withSelector_ok s 0 0 _ _ h)

/-- BLEDALL, BLEDALLB and BBLINK: the four LEDs, then what BBLINK does after them (41_button.md R182
to R184). -/
theorem cutAtLeaf_ledAll (i : Instr) (d : W16) (rest : Run → Run)
    (skipped : ∀ t k f v, rest ⟨t, k, some f, v⟩ = ⟨t, k, some f, v⟩)
    (pseudocode : exec i s = command i [notFatal] (fun r => rest (r.ledAll d)) s) :
    s.CutAtLeaf i s ([0, 1, 2, 3].map fun b t => t.drivePwm (.led b) d) :=
  cutAtLeaf_of_row pseudocode (firstFailure_cons_none (notFatal_none hf))
    (.cons (.pwm (.led 0) d) (.cons (.pwm (.led 1) d) (.cons (.pwm (.led 2) d)
      (.cons (.pwm (.led 3) d) .nil)))) hc rest skipped rfl

/-- URD 0 with the engine idle: the registers of the read are cleared before its one leaf operation
(44_ultrasound.md R261). -/
theorem cutAtLeaf_urd_zero (idle : s.us.st = .idle) :
    s.CutAtLeaf (.urd 0) { s with us := startRead 0 s.us } [fun t => t.driveGpio .trig false] :=
  cutAtLeaf_of_row (i := .urd 0) (checks := [notFatal, engineIdle])
    (body := fun r =>
      let r := r.engine (startRead 0)
      if (0 : BitVec 8) = 0 then r.finish else r.engine fun u => { u with st := .gap, ctr := 0 })
    rfl
    ((firstFailure_cons_none (notFatal_none hf)).trans
      (firstFailure_cons_none (engineIdle_none idle)))
    (.cons (.gpio .trig false) .nil) hc (fun r => r.engine (finishEngine s.cfg))
    (fun _ _ _ _ => rfl) rfl

/-- UCANCEL with the engine running: its one leaf operation comes first (44_ultrasound.md R263). -/
theorem cutAtLeaf_ucancel (running : s.us.st ≠ .idle) :
    s.CutAtLeaf .ucancel s [fun t => t.driveGpio .trig false] :=
  cutAtLeaf_of_row (i := .ucancel) (checks := [notFatal])
    (body := fun r =>
      if r.state.us.st = .idle then r else (r.leaf (.gpioWrite .trig false)).endRead)
    rfl (firstFailure_cons_none (notFatal_none hf)) (.cons (.gpio .trig false) .nil) hc
    Run.endRead (fun _ _ _ _ => rfl) (if_neg running)

end cut

/-- Settles O18: every command is a row of steps with one leaf operation each, cut at the first that
fails (`LeafStep.row_fail`). -/
theorem failedMotorLeafStopsTheCommand : Obligations.FailedMotorLeafStopsTheCommand := by
  intro s v on interval hf hc cut motor drive coast led d full trigLow
  have speeds (i : Instr) (left right : Int)
      (pseudocode : exec i s = command i [notFatal] (fun r => r.setSpeeds left right) s) :
      cut i s (drive 0 left ++ drive 1 right) :=
    cutAtLeaf_setSpeeds hf hc i left right pseudocode
  have duty : dutyOf (clampUnit (sext16 v)) = d := dutyOf_clampUnit v
  refine ⟨fun m h => cutAtLeaf_mset hf hc v h, speeds (.mboth v) _ _ rfl, speeds (.mfwd v) _ _ rfl,
    speeds (.mbwd v) _ _ rfl, speeds (.mtl v) _ _ rfl, speeds (.mtr v) _ _ rfl,
    speeds (.mcfl v) _ _ rfl, speeds (.mcfr v) _ _ rfl, speeds (.mcbl v) _ _ rfl,
    speeds (.mcbr v) _ _ rfl, speeds .mstop _ _ rfl, cutAtLeaf_disable hf hc .mdis rfl,
    cutAtLeaf_disable hf hc .mcoast rfl, fun b h => ⟨?bled, ?bledb⟩, ?bledall, ?bledallb, ?bblink,
    fun idle => ?urd, fun running => cutAtLeaf_ucancel hf hc running⟩
  case bled => exact duty ▸ cutAtLeaf_led hf hc (.bled b v) _ h rfl
  case bledb => exact cutAtLeaf_led hf hc (.bledb b on) (dutyOfBool on) h rfl
  case bledall => exact duty ▸ cutAtLeaf_ledAll hf hc (.bledall v) _ id (fun _ _ _ _ => rfl) rfl
  case bledallb =>
    exact cutAtLeaf_ledAll hf hc (.bledallb on) (dutyOfBool on) id (fun _ _ _ _ => rfl) rfl
  case bblink =>
    exact cutAtLeaf_ledAll hf hc (.bblink interval) (dutyOf ONE)
      (fun r => r.write fun s => { s with blinkTimer := interval, blinkActive := true })
      (fun _ _ _ _ => rfl) rfl
  case urd =>
    rw [← startRead_zero_idle idle]
    exact cutAtLeaf_urd_zero hf hc idle

end Sys2Proof.Machine
/-! SUPPORT. Decoding and encoding (30_encoding.md): the decoder reads every encoded command back,
encoding what it reads gives the word back, and the words it accepts are those of the rows of the
opcode table. Settles the statements O1, O2, O3 and O4. -/

namespace Sys2Proof

/-! ### Decoding an encoded command -/

theorem decode_pack (opc : BitVec 8) (a b : BitVec 4) (h2 h1 h0 : W16) :
    decode (pack opc a b h2 h1 h0) = decodeFields ⟨opc, a, b, h2, h1, h0⟩ := by
  rw [decode, fieldsOf_pack]

/-! The formats whose operand does not fill its field read the operand back (30_encoding.md R92). -/

section formats
variable (opc : BitVec 8) (a : BitVec 4) (h2 h1 h0 : W16) (flag : Bool)

theorem fmtAB_halfOfBit (k : BitVec 4 → Bool → Instr) :
    fmtAB ⟨opc, a, 0, 0, 0, halfOfBit flag⟩ k = .ok (k a flag) := by
  simp [fmtAB, legalIf_ok]

theorem fmtB1_halfOfBit (k : Bool → Instr) :
    fmtB1 ⟨opc, 0, 0, 0, 0, halfOfBit flag⟩ k = .ok (k flag) := by
  simp [fmtB1, legalIf_ok]

theorem fmtAM_setWidth (m : BitVec 12) (k : BitVec 4 → BitVec 12 → Instr) :
    fmtAM ⟨opc, a, 0, 0, 0, m.setWidth 16⟩ k = .ok (k a m) := by
  have above : (m.setWidth 16).extractLsb' 12 4 = 0 := extract_setWidth_above m 16 4
  have below : (m.setWidth 16).extractLsb' 0 12 = m := extract_setWidth m 16 (by decide)
  simp [fmtAM, legalIf_ok, above, below]

theorem fmtM18_setWidth (m : BitVec 18) (k : BitVec 18 → Instr) :
    fmtM18 ⟨opc, 0, 0, 0, hi16 (m.setWidth 32), lo16 (m.setWidth 32)⟩ k = .ok (k m) := by
  have above : (m.setWidth 32).extractLsb' 18 14 = 0 := extract_setWidth_above m 32 14
  have below : (m.setWidth 32).extractLsb' 0 18 = m := extract_setWidth m 32 (by decide)
  simp [fmtM18, legalIf_ok, above, below]

theorem fmtST_setWidth (byte : Byte) (k : W16 → Byte → Instr) :
    fmtST ⟨opc, 0, 0, 0, h1, byte.setWidth 16⟩ k = .ok (k h1 byte) := by
  have above : (byte.setWidth 16).extractLsb' 8 8 = 0 := extract_setWidth_above byte 16 8
  have below : (byte.setWidth 16).extractLsb' 0 8 = byte := extract_setWidth byte 16 (by decide)
  simp [fmtST, legalIf_ok, above, below]

theorem fmtN8_setWidth (n : BitVec 8) (k : BitVec 8 → Instr) :
    fmtN8 ⟨opc, 0, 0, 0, 0, n.setWidth 16⟩ k = .ok (k n) := by
  have above : (n.setWidth 16).extractLsb' 8 8 = 0 := extract_setWidth_above n 16 8
  have below : (n.setWidth 16).extractLsb' 0 8 = n := extract_setWidth n 16 (by decide)
  simp [fmtN8, legalIf_ok, above, below]

theorem fmtRGB_flagsOfShow (k : BitVec 4 → Bool → W16 → W16 → W16 → Instr) :
    fmtRGB ⟨opc, a, flagsOfShow flag, h2, h1, h0⟩ k = .ok (k a flag h2 h1 h0) := by
  simp [fmtRGB, legalIf_ok]

theorem fmtFRGB_flagsOfShow (k : Bool → W16 → W16 → W16 → Instr) :
    fmtFRGB ⟨opc, 0, flagsOfShow flag, h2, h1, h0⟩ k = .ok (k flag h2 h1 h0) := by
  simp [fmtFRGB, legalIf_ok]

theorem fmtAF_flagsOfShow (k : BitVec 4 → Bool → Instr) :
    fmtAF ⟨opc, a, flagsOfShow flag, 0, 0, 0⟩ k = .ok (k a flag) := by
  simp [fmtAF, legalIf_ok]

theorem fmtF_flagsOfShow (k : Bool → Instr) :
    fmtF ⟨opc, 0, flagsOfShow flag, 0, 0, 0⟩ k = .ok (k flag) := by
  simp [fmtF, legalIf_ok]

end formats

/-- Settles O1: the fields of the packed word are those of the command's format; an operand that
fills its field reads back by evaluation, another by its format's lemma. -/
theorem decodeOfEncodeIsTheCommand : Obligations.DecodeOfEncodeIsTheCommand := by
  intro i
  cases i with
  | nop | srst | mdis | mstop | mcoast | snen | sndis | snrst | snupd =>
    rw [encode, decode_pack]; rfl
  | uinit | ufini | ushow | ucancel | uget => rw [encode, decode_pack]; rfl
  | mset | mboth | mfwd | mbwd | mtl | mtr | mcfl | mcfr | mcbl | mcbr =>
    rw [encode, decode_pack]; rfl
  | rd | bled | bledall | bhold | snout | snoutr | str => rw [encode, decode_pack]; rfl
  | wr reg w =>
    rw [encode, decode_pack]
    exact congrArg (fun w => Except.ok (Instr.wr reg w)) (wordOf_hi16_lo16 w)
  | bblink w =>
    rw [encode, decode_pack]
    exact congrArg (fun w => Except.ok (Instr.bblink w)) (wordOf_hi16_lo16 w)
  | bledb a on => rw [encode, decode_pack]; exact fmtAB_halfOfBit _ a on _
  | bledallb on => rw [encode, decode_pack]; exact fmtB1_halfOfBit _ on _
  | bsub a mask | bunsub a mask | back a mask =>
    rw [encode, decode_pack]; exact fmtAM_setWidth _ a mask _
  | snmask mask => rw [encode, decode_pack]; exact fmtM18_setWidth _ mask _
  | stw idx byte => rw [encode, decode_pack]; exact fmtST_setWidth _ idx byte _
  | uset a sh x y z | uhsv a sh x y z =>
    rw [encode, decode_pack]; exact fmtRGB_flagsOfShow _ a x y z sh _
  | ufill sh x y z | ufillhsv sh x y z =>
    rw [encode, decode_pack]; exact fmtFRGB_flagsOfShow _ x y z sh _
  | uclr a sh => rw [encode, decode_pack]; exact fmtAF_flagsOfShow _ a sh _
  | uclrall sh => rw [encode, decode_pack]; exact fmtF_flagsOfShow _ sh _
  | urd n => rw [encode, decode_pack]; exact fmtN8_setWidth _ n _

/-! ### The rows of the opcode table -/

/-- The word with these fields (30_encoding.md R91). -/
def Fields.word (f : Fields) : W64 := pack f.opc f.a f.b f.h2 f.h1 f.h0

theorem word_fieldsOf (cw : W64) : (fieldsOf cw).word = cw := pack_fieldsOf cw

theorem pack_and (c c' : BitVec 8) (a a' b b' : BitVec 4) (h2 h2' h1 h1' h0 h0' : W16) :
    pack c a b h2 h1 h0 &&& pack c' a' b' h2' h1' h0' =
      pack (c &&& c') (a &&& a') (b &&& b') (h2 &&& h2') (h1 &&& h1') (h0 &&& h0') :=
  BitVec.and_append.trans <| congrArg (· ++ (h0 &&& h0')) <|
  BitVec.and_append.trans <| congrArg (· ++ (h1 &&& h1')) <|
  BitVec.and_append.trans <| congrArg (· ++ (h2 &&& h2')) <|
  BitVec.and_append.trans <| congrArg (· ++ (b &&& b')) BitVec.and_append

theorem pack_inj {c c' : BitVec 8} {a a' b b' : BitVec 4} {h2 h2' h1 h1' h0 h0' : W16} :
    pack c a b h2 h1 h0 = pack c' a' b' h2' h1' h0' ↔
      c = c' ∧ a = a' ∧ b = b' ∧ h2 = h2' ∧ h1 = h1' ∧ h0 = h0' := by
  refine ⟨fun h => ?_, fun ⟨hc, ha, hb, h2, h1, h0⟩ => by rw [hc, ha, hb, h2, h1, h0]⟩
  have cut := congrArg fieldsOf h
  simpa only [fieldsOf_pack, Fields.mk.injEq] using cut

/-- A row whose mask covers the opcode matches the words with its opcode and zeros under the rest of
the mask. -/
theorem rowMatches_pack (f : Fields) (opc : BitVec 8) (ma mb : BitVec 4) (m2 m1 m0 : W16) :
    rowMatches ⟨pack opc 0 0 0 0 0, pack 0xFF ma mb m2 m1 m0⟩ f.word = true ↔
      f.opc = opc ∧ f.a &&& ma = 0 ∧ f.b &&& mb = 0 ∧ f.h2 &&& m2 = 0 ∧ f.h1 &&& m1 = 0 ∧
        f.h0 &&& m0 = 0 := by
  have whole : f.opc &&& 0xFF = f.opc := BitVec.and_allOnes
  rw [rowMatches, beq_iff_eq, Fields.word, pack_and, pack_inj, whole]

/-- The bits of a field under a mask of its upper part. -/
theorem and_upperMask {w v : Nat} (x : BitVec (w + v)) :
    x &&& (BitVec.allOnes w ++ (0 : BitVec v)) = 0 ↔ x.extractLsb' v w = 0 := by
  have masked : x &&& (BitVec.allOnes w ++ (0 : BitVec v)) =
      x.extractLsb' v w ++ (0 : BitVec v) := by
    conv_lhs => rw [← append_extract x, BitVec.and_append, BitVec.and_allOnes]
    exact congrArg _ BitVec.and_zero
  rw [masked]
  refine ⟨fun h => ?_, fun h => by rw [h]; exact BitVec.zero_append_zero⟩
  rw [← extract_upper (x.extractLsb' v w) (0 : BitVec v), h]
  exact BitVec.extractLsb'_zero ..

theorem and_full4 (x : BitVec 4) : x &&& 0xF = x := BitVec.and_allOnes
theorem and_full16 (x : W16) : x &&& 0xFFFF = x := BitVec.and_allOnes
theorem and_none {w : Nat} (x : BitVec w) : x &&& 0 = 0 := BitVec.and_zero

theorem upperMask15 (x : W16) : x &&& 0xFFFE = 0 ↔ x.extractLsb' 1 15 = 0 :=
  and_upperMask (w := 15) (v := 1) x
theorem upperMask14 (x : W16) : x &&& 0xFFFC = 0 ↔ x.extractLsb' 2 14 = 0 :=
  and_upperMask (w := 14) (v := 2) x
theorem upperMask8 (x : W16) : x &&& 0xFF00 = 0 ↔ x.extractLsb' 8 8 = 0 :=
  and_upperMask (w := 8) (v := 8) x
theorem upperMask4 (x : W16) : x &&& 0xF000 = 0 ↔ x.extractLsb' 12 4 = 0 :=
  and_upperMask (w := 4) (v := 12) x
theorem upperMask3 (x : BitVec 4) : x &&& 0xE = 0 ↔ x.extractLsb' 1 3 = 0 :=
  and_upperMask (w := 3) (v := 1) x

/-- W[31:18] are the upper 14 bits of H1 (30_encoding.md R91). -/
theorem word_above18 (h1 h0 : W16) :
    (wordOf h1 h0).extractLsb' 18 14 = h1.extractLsb' 2 14 := extract_above h1 h0 2 14

theorem halfOfBit_getLsbD {h : W16} (above : h.extractLsb' 1 15 = 0) :
    halfOfBit (h.getLsbD 0) = h := halfOfBit_of h above

theorem flagsOfShow_getLsbD {b : BitVec 4} (above : b.extractLsb' 1 3 = 0) :
    flagsOfShow (b.getLsbD 0) = b := flagsOfShow_of b above

/-- The decoder's answer `d` for the word with fields `f`, whose opcode is that of `row`: a command
exactly for the words of the row, the one the word encodes, and else the opcode is reported. -/
structure RowDecodes (f : Fields) (row : OpcodeRow) (d : Except DecodeError Instr) : Prop where
  word : ∀ i, d = .ok i → encode i = f.word
  accepts : (∃ i, d = .ok i) ↔ rowMatches row f.word = true
  reports : ∀ e, d = .error e → decodeErrorOpcode e = f.opc

section rows
variable {f : Fields} {n : BitVec 8} (opc : f.opc = n)
include opc

/-- A format whose must-be-zero check is the mask of its row. -/
theorem rowDecodes_legalIf {zero : Bool} {i : Instr} {ma mb : BitVec 4} {m2 m1 m0 : W16}
    (checked : zero = true ↔ f.a &&& ma = 0 ∧ f.b &&& mb = 0 ∧ f.h2 &&& m2 = 0 ∧
      f.h1 &&& m1 = 0 ∧ f.h0 &&& m0 = 0)
    (word : zero = true → encode i = pack n f.a f.b f.h2 f.h1 f.h0) :
    RowDecodes f ⟨pack n 0 0 0 0 0, pack 0xFF ma mb m2 m1 m0⟩ (legalIf f zero i) where
  word j h := by
    obtain ⟨legal, rfl⟩ := legalIf_ok.mp h
    rw [word legal, Fields.word, opc]
  accepts := by
    rw [rowMatches_pack, ← checked]
    simp only [legalIf_ok, exists_and_left, exists_eq', and_true, opc, true_and]
  reports e h := by
    obtain ⟨-, rfl⟩ := legalIf_error.mp h
    rfl

theorem fmtZ_rowDecodes {k : Instr} (word : encode k = pack n 0 0 0 0 0) :
    RowDecodes f ⟨pack n 0 0 0 0 0, pack 0xFF 0xF 0xF 0xFFFF 0xFFFF 0xFFFF⟩ (fmtZ f k) := by
  refine rowDecodes_legalIf opc ?checked fun zero => ?word
  case checked =>
    simp only [and_full4, and_full16, Bool.and_eq_true, beq_iff_eq, and_assoc]
  case word =>
    simp only [Bool.and_eq_true, beq_iff_eq, and_assoc] at zero
    obtain ⟨a, b, h2, h1, h0⟩ := zero
    rw [word, a, b, h2, h1, h0]

theorem fmtS_rowDecodes {k : W16 → Instr}
    (word : ∀ v, encode (k v) = pack n 0 0 0 0 v) :
    RowDecodes f ⟨pack n 0 0 0 0 0, pack 0xFF 0xF 0xF 0xFFFF 0xFFFF 0⟩ (fmtS f k) := by
  refine rowDecodes_legalIf opc ?checked fun zero => ?word
  case checked =>
    simp only [and_full4, and_full16, and_none, and_true, Bool.and_eq_true, beq_iff_eq, and_assoc]
  case word =>
    simp only [Bool.and_eq_true, beq_iff_eq, and_assoc] at zero
    obtain ⟨a, b, h2, h1⟩ := zero
    rw [word, a, b, h2, h1]

theorem fmtAS_rowDecodes {k : BitVec 4 → W16 → Instr}
    (word : ∀ a v, encode (k a v) = pack n a 0 0 0 v) :
    RowDecodes f ⟨pack n 0 0 0 0 0, pack 0xFF 0 0xF 0xFFFF 0xFFFF 0⟩ (fmtAS f k) := by
  refine rowDecodes_legalIf opc ?checked fun zero => ?word
  case checked =>
        simp only [and_full4, and_full16, and_none, and_true, true_and, Bool.and_eq_true,
      beq_iff_eq, and_assoc]
  case word =>
    simp only [Bool.and_eq_true, beq_iff_eq, and_assoc] at zero
    obtain ⟨b, h2, h1⟩ := zero
    rw [word, b, h2, h1]

theorem fmtA0_rowDecodes {k : BitVec 4 → Instr}
    (word : ∀ a, encode (k a) = pack n a 0 0 0 0) :
    RowDecodes f ⟨pack n 0 0 0 0 0, pack 0xFF 0 0xF 0xFFFF 0xFFFF 0xFFFF⟩ (fmtA0 f k) := by
  refine rowDecodes_legalIf opc ?checked fun zero => ?word
  case checked =>
    simp only [and_full4, and_full16, and_none, true_and, Bool.and_eq_true, beq_iff_eq, and_assoc]
  case word =>
    simp only [Bool.and_eq_true, beq_iff_eq, and_assoc] at zero
    obtain ⟨b, h2, h1, h0⟩ := zero
    rw [word, b, h2, h1, h0]

theorem fmtAB_rowDecodes {k : BitVec 4 → Bool → Instr}
    (word : ∀ a on, encode (k a on) = pack n a 0 0 0 (halfOfBit on)) :
    RowDecodes f ⟨pack n 0 0 0 0 0, pack 0xFF 0 0xF 0xFFFF 0xFFFF 0xFFFE⟩ (fmtAB f k) := by
  refine rowDecodes_legalIf opc ?checked fun zero => ?word
  case checked =>
        simp only [and_full4, and_full16, and_none, true_and, Bool.and_eq_true, beq_iff_eq,
      and_assoc, upperMask15]
  case word =>
    simp only [Bool.and_eq_true, beq_iff_eq, and_assoc] at zero
    obtain ⟨b, h2, h1, h0⟩ := zero
    rw [word, b, h2, h1, halfOfBit_getLsbD h0]

theorem fmtB1_rowDecodes {k : Bool → Instr}
    (word : ∀ on, encode (k on) = pack n 0 0 0 0 (halfOfBit on)) :
    RowDecodes f ⟨pack n 0 0 0 0 0, pack 0xFF 0xF 0xF 0xFFFF 0xFFFF 0xFFFE⟩ (fmtB1 f k) := by
  refine rowDecodes_legalIf opc ?checked fun zero => ?word
  case checked =>
    simp only [and_full4, and_full16, Bool.and_eq_true, beq_iff_eq, and_assoc, upperMask15]
  case word =>
    simp only [Bool.and_eq_true, beq_iff_eq, and_assoc] at zero
    obtain ⟨a, b, h2, h1, h0⟩ := zero
    rw [word, a, b, h2, h1, halfOfBit_getLsbD h0]

theorem fmtAM_rowDecodes {k : BitVec 4 → BitVec 12 → Instr}
    (word : ∀ a m, encode (k a m) = pack n a 0 0 0 (m.setWidth 16)) :
    RowDecodes f ⟨pack n 0 0 0 0 0, pack 0xFF 0 0xF 0xFFFF 0xFFFF 0xF000⟩ (fmtAM f k) := by
  refine rowDecodes_legalIf opc ?checked fun zero => ?word
  case checked =>
        simp only [and_full4, and_full16, and_none, true_and, Bool.and_eq_true, beq_iff_eq,
      and_assoc, upperMask4]
  case word =>
    simp only [Bool.and_eq_true, beq_iff_eq, and_assoc] at zero
    obtain ⟨b, h2, h1, h0⟩ := zero
    rw [word, b, h2, h1, setWidth_extract 12 4 rfl _ h0]

theorem fmtW32_rowDecodes {k : W32 → Instr}
    (word : ∀ w, encode (k w) = pack n 0 0 0 (hi16 w) (lo16 w)) :
    RowDecodes f ⟨pack n 0 0 0 0 0, pack 0xFF 0xF 0xF 0xFFFF 0 0⟩ (fmtW32 f k) := by
  refine rowDecodes_legalIf opc ?checked fun zero => ?word
  case checked =>
    simp only [and_full4, and_full16, and_none, and_true, Bool.and_eq_true, beq_iff_eq, and_assoc]
  case word =>
    simp only [Bool.and_eq_true, beq_iff_eq, and_assoc] at zero
    obtain ⟨a, b, h2⟩ := zero
    rw [word, a, b, h2, hi16_wordOf, lo16_wordOf]

theorem fmtM18_rowDecodes {k : BitVec 18 → Instr}
    (word : ∀ m, encode (k m) = pack n 0 0 0 (hi16 (m.setWidth 32)) (lo16 (m.setWidth 32))) :
    RowDecodes f ⟨pack n 0 0 0 0 0, pack 0xFF 0xF 0xF 0xFFFF 0xFFFC 0⟩ (fmtM18 f k) := by
  refine rowDecodes_legalIf opc ?checked fun zero => ?word
  case checked =>
    simp only [and_full4, and_full16, and_none, and_true, Bool.and_eq_true, beq_iff_eq, and_assoc,
      word_above18, upperMask14]
  case word =>
    simp only [Bool.and_eq_true, beq_iff_eq, and_assoc] at zero
    obtain ⟨a, b, h2, reserved⟩ := zero
    rw [word, a, b, h2, setWidth_extract 18 14 rfl _ reserved, hi16_wordOf, lo16_wordOf]

theorem fmtST_rowDecodes {k : W16 → Byte → Instr}
    (word : ∀ v byte, encode (k v byte) = pack n 0 0 0 v (byte.setWidth 16)) :
    RowDecodes f ⟨pack n 0 0 0 0 0, pack 0xFF 0xF 0xF 0xFFFF 0 0xFF00⟩ (fmtST f k) := by
  refine rowDecodes_legalIf opc ?checked fun zero => ?word
  case checked =>
        simp only [and_full4, and_full16, and_none, true_and, Bool.and_eq_true, beq_iff_eq,
      and_assoc, upperMask8]
  case word =>
    simp only [Bool.and_eq_true, beq_iff_eq, and_assoc] at zero
    obtain ⟨a, b, h2, h0⟩ := zero
    rw [word, a, b, h2, setWidth_extract 8 8 rfl _ h0]

theorem fmtSI_rowDecodes {k : W16 → Instr}
    (word : ∀ v, encode (k v) = pack n 0 0 0 v 0) :
    RowDecodes f ⟨pack n 0 0 0 0 0, pack 0xFF 0xF 0xF 0xFFFF 0 0xFFFF⟩ (fmtSI f k) := by
  refine rowDecodes_legalIf opc ?checked fun zero => ?word
  case checked =>
    simp only [and_full4, and_full16, and_none, true_and, Bool.and_eq_true, beq_iff_eq, and_assoc]
  case word =>
    simp only [Bool.and_eq_true, beq_iff_eq, and_assoc] at zero
    obtain ⟨a, b, h2, h0⟩ := zero
    rw [word, a, b, h2, h0]

theorem fmtRGB_rowDecodes {k : BitVec 4 → Bool → W16 → W16 → W16 → Instr}
    (word : ∀ a sh x y z, encode (k a sh x y z) = pack n a (flagsOfShow sh) x y z) :
    RowDecodes f ⟨pack n 0 0 0 0 0, pack 0xFF 0 0xE 0 0 0⟩ (fmtRGB f k) := by
  refine rowDecodes_legalIf opc ?checked fun zero => ?word
  case checked =>
    simp only [and_none, and_true, true_and, beq_iff_eq, upperMask3]
  case word =>
    simp only [beq_iff_eq] at zero
    rw [word, flagsOfShow_getLsbD zero]

theorem fmtFRGB_rowDecodes {k : Bool → W16 → W16 → W16 → Instr}
    (word : ∀ sh x y z, encode (k sh x y z) = pack n 0 (flagsOfShow sh) x y z) :
    RowDecodes f ⟨pack n 0 0 0 0 0, pack 0xFF 0xF 0xE 0 0 0⟩ (fmtFRGB f k) := by
  refine rowDecodes_legalIf opc ?checked fun zero => ?word
  case checked =>
    simp only [and_full4, and_none, and_true, Bool.and_eq_true, beq_iff_eq, upperMask3]
  case word =>
    simp only [Bool.and_eq_true, beq_iff_eq] at zero
    obtain ⟨a, b⟩ := zero
    rw [word, a, flagsOfShow_getLsbD b]

theorem fmtAF_rowDecodes {k : BitVec 4 → Bool → Instr}
    (word : ∀ a sh, encode (k a sh) = pack n a (flagsOfShow sh) 0 0 0) :
    RowDecodes f ⟨pack n 0 0 0 0 0, pack 0xFF 0 0xE 0xFFFF 0xFFFF 0xFFFF⟩ (fmtAF f k) := by
  refine rowDecodes_legalIf opc ?checked fun zero => ?word
  case checked =>
    simp only [and_full16, and_none, true_and, Bool.and_eq_true, beq_iff_eq, and_assoc, upperMask3]
  case word =>
    simp only [Bool.and_eq_true, beq_iff_eq, and_assoc] at zero
    obtain ⟨b, h2, h1, h0⟩ := zero
    rw [word, flagsOfShow_getLsbD b, h2, h1, h0]

theorem fmtF_rowDecodes {k : Bool → Instr}
    (word : ∀ sh, encode (k sh) = pack n 0 (flagsOfShow sh) 0 0 0) :
    RowDecodes f ⟨pack n 0 0 0 0 0, pack 0xFF 0xF 0xE 0xFFFF 0xFFFF 0xFFFF⟩ (fmtF f k) := by
  refine rowDecodes_legalIf opc ?checked fun zero => ?word
  case checked =>
    simp only [and_full4, and_full16, Bool.and_eq_true, beq_iff_eq, and_assoc, upperMask3]
  case word =>
    simp only [Bool.and_eq_true, beq_iff_eq, and_assoc] at zero
    obtain ⟨a, b, h2, h1, h0⟩ := zero
    rw [word, a, flagsOfShow_getLsbD b, h2, h1, h0]

theorem fmtN8_rowDecodes {k : BitVec 8 → Instr}
    (word : ∀ v, encode (k v) = pack n 0 0 0 0 (v.setWidth 16)) :
    RowDecodes f ⟨pack n 0 0 0 0 0, pack 0xFF 0xF 0xF 0xFFFF 0xFFFF 0xFF00⟩ (fmtN8 f k) := by
  refine rowDecodes_legalIf opc ?checked fun zero => ?word
  case checked =>
    simp only [and_full4, and_full16, Bool.and_eq_true, beq_iff_eq, and_assoc, upperMask8]
  case word =>
    simp only [Bool.and_eq_true, beq_iff_eq, and_assoc] at zero
    obtain ⟨a, b, h2, h1, h0⟩ := zero
    rw [word, a, b, h2, h1, setWidth_extract 8 8 rfl _ h0]

theorem fmtR_rowDecodes {k : W16 → Instr}
    (word : ∀ v, encode (k v) = pack n 0 0 v 0 0) :
    RowDecodes f ⟨pack n 0 0 0 0 0, pack 0xFF 0xF 0xF 0 0xFFFF 0xFFFF⟩ (fmtR f k) := by
  refine rowDecodes_legalIf opc ?checked fun zero => ?word
  case checked =>
    simp only [and_full4, and_full16, and_none, true_and, Bool.and_eq_true, beq_iff_eq, and_assoc]
  case word =>
    simp only [Bool.and_eq_true, beq_iff_eq, and_assoc] at zero
    obtain ⟨a, b, h1, h0⟩ := zero
    rw [word, a, b, h1, h0]

theorem fmtRW_rowDecodes {k : W16 → W32 → Instr}
    (word : ∀ v w, encode (k v w) = pack n 0 0 v (hi16 w) (lo16 w)) :
    RowDecodes f ⟨pack n 0 0 0 0 0, pack 0xFF 0xF 0xF 0 0 0⟩ (fmtRW f k) := by
  refine rowDecodes_legalIf opc ?checked fun zero => ?word
  case checked =>
    simp only [and_full4, and_none, and_true, Bool.and_eq_true, beq_iff_eq]
  case word =>
    simp only [Bool.and_eq_true, beq_iff_eq] at zero
    obtain ⟨a, b⟩ := zero
    rw [word, a, b, hi16_wordOf, lo16_wordOf]

end rows

/-- The row with a given opcode (30_encoding.md R95). -/
def rowOf (opcode : BitVec 8) : Option OpcodeRow :=
  opcodeTable.find? fun row => row.pattern.extractLsb' 56 8 == opcode

theorem rowOf_self : ∀ row ∈ opcodeTable, rowOf (row.pattern.extractLsb' 56 8) = some row := by
  decide

/-- The opcodes that have a row (30_encoding.md R95). -/
theorem opcodeTable_opcodes : ∀ row ∈ opcodeTable, (row.pattern.extractLsb' 56 8).toNat ∈
    [0x00, 0x01, 0x02, 0x03, 0x10, 0x11, 0x12, 0x13, 0x14, 0x15, 0x16, 0x17, 0x18, 0x19, 0x1A, 0x1B,
     0x1C, 0x20, 0x21, 0x22, 0x23, 0x24, 0x25, 0x26, 0x27, 0x28, 0x30, 0x31, 0x32, 0x33, 0x34, 0x35,
     0x36, 0x37, 0x38, 0x40, 0x41, 0x42, 0x43, 0x44, 0x45, 0x46, 0x47, 0x48, 0x50, 0x51, 0x52] := by
  decide

/-- The decoder, opcode by opcode: the row of the opcode is that of the command's format, and an
opcode without a row is reported (30_encoding.md R95 to R97). -/
theorem decodeFields_rows (f : Fields) :
    (∃ row, rowOf f.opc = some row ∧ RowDecodes f row (decodeFields f)) ∨
    (rowOf f.opc = none ∧ decodeFields f = .error (.unknownOpcode f.opc)) := by
  have opcodeIs {c : Nat} (h : f.opc.toNat = c) : f.opc = BitVec.ofNat 8 c := by
    rw [← h, BitVec.ofNat_toNat, BitVec.setWidth_eq]
  have of {n : BitVec 8} {row : OpcodeRow} {d : Except DecodeError Instr} (opc : f.opc = n)
      (hrow : rowOf n = some row) (decodes : RowDecodes f row d) :
      (∃ row, rowOf f.opc = some row ∧ RowDecodes f row d) ∨
        (rowOf f.opc = none ∧ d = .error (.unknownOpcode f.opc)) :=
    .inl ⟨row, opc ▸ hrow, decodes⟩
  unfold decodeFields
  split
  case h_1 opc | h_4 opc | h_7 opc | h_16 opc | h_17 opc | h_27 opc | h_28 opc | h_29 opc |
      h_31 opc | h_36 opc | h_37 opc | h_42 opc | h_46 opc | h_47 opc =>
    exact of (opcodeIs opc) rfl (fmtZ_rowDecodes (opcodeIs opc) rfl)
  case h_2 opc =>
    exact of (opcodeIs opc) rfl (fmtR_rowDecodes (opcodeIs opc) fun _ => rfl)
  case h_3 opc =>
    exact of (opcodeIs opc) rfl (fmtRW_rowDecodes (opcodeIs opc) fun _ _ => rfl)
  case h_5 opc | h_18 opc =>
    exact of (opcodeIs opc) rfl (fmtAS_rowDecodes (opcodeIs opc) fun _ _ => rfl)
  case h_6 opc | h_8 opc | h_9 opc | h_10 opc | h_11 opc | h_12 opc | h_13 opc | h_14 opc |
      h_15 opc | h_20 opc | h_32 opc | h_33 opc =>
    exact of (opcodeIs opc) rfl (fmtS_rowDecodes (opcodeIs opc) fun _ => rfl)
  case h_19 opc =>
    exact of (opcodeIs opc) rfl (fmtAB_rowDecodes (opcodeIs opc) fun _ _ => rfl)
  case h_21 opc =>
    exact of (opcodeIs opc) rfl (fmtB1_rowDecodes (opcodeIs opc) fun _ => rfl)
  case h_22 opc =>
    exact of (opcodeIs opc) rfl (fmtA0_rowDecodes (opcodeIs opc) fun _ => rfl)
  case h_23 opc | h_24 opc | h_25 opc =>
    exact of (opcodeIs opc) rfl (fmtAM_rowDecodes (opcodeIs opc) fun _ _ => rfl)
  case h_26 opc =>
    exact of (opcodeIs opc) rfl (fmtW32_rowDecodes (opcodeIs opc) fun _ => rfl)
  case h_30 opc =>
    exact of (opcodeIs opc) rfl (fmtM18_rowDecodes (opcodeIs opc) fun _ => rfl)
  case h_34 opc =>
    exact of (opcodeIs opc) rfl (fmtST_rowDecodes (opcodeIs opc) fun _ _ => rfl)
  case h_35 opc =>
    exact of (opcodeIs opc) rfl (fmtSI_rowDecodes (opcodeIs opc) fun _ => rfl)
  case h_38 opc | h_43 opc =>
    exact of (opcodeIs opc) rfl (fmtRGB_rowDecodes (opcodeIs opc) fun _ _ _ _ _ => rfl)
  case h_39 opc | h_44 opc =>
    exact of (opcodeIs opc) rfl (fmtFRGB_rowDecodes (opcodeIs opc) fun _ _ _ _ => rfl)
  case h_40 opc =>
    exact of (opcodeIs opc) rfl (fmtAF_rowDecodes (opcodeIs opc) fun _ _ => rfl)
  case h_41 opc =>
    exact of (opcodeIs opc) rfl (fmtF_rowDecodes (opcodeIs opc) fun _ => rfl)
  case h_45 opc =>
    exact of (opcodeIs opc) rfl (fmtN8_rowDecodes (opcodeIs opc) fun _ => rfl)
  case h_48 =>
    refine .inr ⟨List.find?_eq_none.mpr fun row mem opc => ?_, rfl⟩
    have known := opcodeTable_opcodes row mem
    rw [beq_iff_eq.mp opc] at known
    simp only [List.mem_cons, List.not_mem_nil, or_false] at known
    casesm* _ ∨ _
    all_goals contradiction

/-- Every mask of the table covers the opcode. -/
theorem opcodeTable_masks :
    ∀ row ∈ opcodeTable, row.mask.extractLsb' 56 8 = (0xFF : BitVec 8) := by
  decide

/-- The row a word matches is the row of its opcode. -/
theorem rowOf_of_matches {row : OpcodeRow} {cw : W64} (mem : row ∈ opcodeTable)
    (matched : rowMatches row cw = true) : rowOf (cw.extractLsb' 56 8) = some row := by
  have top : (cw &&& row.mask).extractLsb' 56 8 = row.pattern.extractLsb' 56 8 :=
    congrArg _ (beq_iff_eq.mp matched)
  rw [BitVec.extractLsb'_and, opcodeTable_masks row mem] at top
  have opcode : cw.extractLsb' 56 8 = row.pattern.extractLsb' 56 8 :=
    BitVec.and_allOnes.symm.trans top
  rw [opcode, rowOf_self row mem]

/-- A row found by its opcode is a row of the table. -/
theorem rowOf_mem {opcode : BitVec 8} {row : OpcodeRow} (h : rowOf opcode = some row) :
    row ∈ opcodeTable := List.mem_of_find?_eq_some h

/-- Settles O2: for each opcode, what its row's format decodes encodes to the word. -/
theorem encodeOfDecodeIsTheWord : Obligations.EncodeOfDecodeIsTheWord := by
  intro cw i decoded
  rcases decodeFields_rows (fieldsOf cw) with ⟨row, -, decodes⟩ | ⟨-, unknown⟩
  · exact (decodes.word i decoded).trans (word_fieldsOf cw)
  · exact absurd (decoded.symm.trans unknown) nofun

/-- Settles O3: a word is accepted exactly when it matches the row of its opcode, the only one it
can match (`rowOf_of_matches`). -/
theorem decodeAcceptsExactlyTheTableRows : Obligations.DecodeAcceptsExactlyTheTableRows := by
  refine ⟨fun cw => ?accepts, fun cw x hx y hy mx my => ?unique, fun cw e refused => ?reports⟩
  case unique =>
    exact Option.some.inj ((rowOf_of_matches hx mx).symm.trans (rowOf_of_matches hy my))
  case accepts =>
    rcases decodeFields_rows (fieldsOf cw) with ⟨row, found, decodes⟩ | ⟨noRow, unknown⟩
    · refine (word_fieldsOf cw ▸ decodes.accepts).trans
        ⟨fun matched => ⟨row, rowOf_mem found, matched⟩, fun ⟨_, mem, matched⟩ => ?_⟩
      rwa [Option.some.inj (found.symm.trans (rowOf_of_matches mem matched))]
    · refine ⟨fun ⟨i, decoded⟩ => ?_, fun ⟨row, mem, matched⟩ => ?_⟩
      · exact absurd (decoded.symm.trans unknown) nofun
      · exact absurd ((rowOf_of_matches mem matched).symm.trans noRow) nofun
  case reports =>
    rcases decodeFields_rows (fieldsOf cw) with ⟨row, -, decodes⟩ | ⟨-, unknown⟩
    · exact decodes.reports e refused
    · rw [Except.error.inj (refused.symm.trans unknown)]
      rfl

/-- Settles O4: each word is the word of its command, which decodes to it (O1). -/
theorem specWordsDecode : Obligations.SpecWordsDecode :=
  ⟨decodeOfEncodeIsTheCommand (.wr 0x022 500000), decodeOfEncodeIsTheCommand (.mset 0 0x2000),
    decodeOfEncodeIsTheCommand (.bledb 3 true), decodeOfEncodeIsTheCommand (.bsub 0 0x002),
    decodeOfEncodeIsTheCommand (.bblink 500000), decodeOfEncodeIsTheCommand (.snmask 0x3FFFF),
    decodeOfEncodeIsTheCommand (.stw 1 0x80), decodeOfEncodeIsTheCommand (.uset 1 true 255 128 0),
    decodeOfEncodeIsTheCommand (.ufillhsv true 200 0x2000 0x2000),
    decodeOfEncodeIsTheCommand (.urd 3)⟩

end Sys2Proof

/-! SUPPORT. A step (00_scope.md R6, R7): the input it takes, what it does with each kind of input,
and that nothing else of the state changes by taking it. Settles the statements O5 and O6. -/

namespace Sys2Proof.Machine

/-- Every state is offered an input. -/
theorem State.offers_nextInput (s : State) : s.Offers s.nextInput.1 s.nextInput.2 := by
  cases pending : s.env.pending with
  | cons x rest =>
    refine .inl ⟨rest, ?_, ?_⟩
    · simp only [State.nextInput, pending]
    · simp only [State.nextInput, pending]
  | nil =>
    refine .inr ⟨pending, ?_, ?_⟩
    · simp only [State.nextInput, pending]
    · simp only [State.nextInput, pending]

section offered
variable {s s' : State}

/-- Taking an input changes only what waits and what was drawn. -/
theorem State.Offers.state_eq {x : Input} (h : s.Offers x s') :
    s' = { s with env := { s.env with pending := s'.env.pending, drawn := s'.env.drawn } } := by
  rcases h with ⟨_, _, rfl⟩ | ⟨_, _, rfl⟩
  · rfl
  · rfl

/-- An offered word of a command runs the command. -/
theorem step_command {cw : W64} {i : Instr} (h : s.Offers (.command cw) s')
    (decoded : decode cw = .ok i) : step s = exec i s' := by
  simp only [step, h.nextInput_eq, decoded]

/-- An offered tick runs the tick step. -/
theorem step_tick {x : Sample} (h : s.Offers (.tick x) s') : step s = .next (s'.tickStep x) := by
  simp only [step, h.nextInput_eq]

/-- A word presented is the next input offered. -/
theorem State.offers_presentWord (s : State) (cw : W64) :
    (s.presentWord cw).Offers (.command cw) s := .inl ⟨s.env.pending, rfl, rfl⟩

end offered

/-- Everything a step can do, by the input it takes. -/
theorem step_cases {s t : State} (h : step s = .next t) : ∃ s',
    (s.Offers .rst s' ∧ t = State.inert s'.cfg s'.env []) ∨
    (∃ x, s.Offers (.tick x) s' ∧ t = s'.tickStep x) ∨
    (∃ cw i, s.Offers (.command cw) s' ∧ decode cw = .ok i ∧ exec i s' = .next t) ∨
    ∃ cw info, s.Offers (.command cw) s' ∧ t = s'.afterError cw .invalidCommand info := by
  have offered := s.offers_nextInput
  refine ⟨s.nextInput.2, ?_⟩
  cases input : s.nextInput.1 with
  | rst =>
    rw [input] at offered
    exact .inl ⟨offered, Host.Outcome.next.inj (h.symm.trans (step_rst offered))⟩
  | tick x =>
    rw [input] at offered
    exact .inr (.inl ⟨x, offered, Host.Outcome.next.inj (h.symm.trans (step_tick offered))⟩)
  | command cw =>
    rw [input] at offered
    cases decoded : decode cw with
    | ok i => exact .inr (.inr (.inl ⟨cw, i, offered, decoded, step_command offered decoded ▸ h⟩))
    | error e =>
      have ended := step_illegalWord offered decoded
      exact .inr (.inr (.inr ⟨cw, _, offered, Host.Outcome.next.inj (h.symm.trans ended)⟩))

/-- Settles O5: an offered word runs its command (`step_command`), and the word that
`withFetchWord` presents decodes to the command it encodes (O1). -/
theorem stepRunsTheDecodedCommand : Obligations.StepRunsTheDecodedCommand := by
  refine ⟨fun s s' cw i => step_command, fun s i => ?_⟩
  have word : BitVec.ofNat 64 ((encode i).toNat % 2 ^ 64) = encode i := by
    rw [Nat.mod_eq_of_lt (encode i).isLt, BitVec.ofNat_toNat, BitVec.setWidth_eq]
  rw [State.withFetchWord, word]
  exact step_command (s.offers_presentWord (encode i)) (decodeOfEncodeIsTheCommand i)

/-- Settles O6: a tick by the definition of the tick step; for a word that is no command the opcode
reported is that of O3. -/
theorem stepRunsTicksAndAnswersIllegalWords : Obligations.StepRunsTicksAndAnswersIllegalWords := by
  refine fun s s' => ⟨fun x => step_tick, fun cw e offered illegal => ?_⟩
  obtain ⟨-, -, reports⟩ := decodeAcceptsExactlyTheTableRows
  rw [step_illegalWord offered illegal, reports cw e illegal]
  rfl

end Sys2Proof.Machine

/-! SUPPORT. Everything a command can write (10_state.md R46 and the rules of the commands): a
relation with one constructor per kind of write, and for each command that its pseudocode makes only
such writes and raises an error other than a transport failure only before the first of them
(60_exceptions.md R325, R331). What every command keeps is then a case analysis over the writes. -/

namespace Sys2Proof.Machine

/-! ### The writes of a command -/

/-- The leaf operations commands make: duties and the brake duty, the enable line, the trigger line
low, and bus writes of the six forms (10_state.md R27, R33, 20_memory.md R65). -/
def LeafOp.OfCommand (cfg : Config) : LeafOp → Prop
  | .pwmSet _ d => d.toNat ≤ ONE ∨ d = cfg.brakeNegDuty
  | .gpioWrite .motorEn _ => True
  | .gpioWrite .trig v => v = false
  | .i2cWrite bytes => BusForm cfg bytes

/-- One write of command `i` under the parameters `cfg`, from the first state to the second. -/
inductive CommandWrite (cfg : Config) (i : Instr) : State → State → Prop
  | leaf (s : State) (op : LeafOp) (h : op.OfCommand cfg) : CommandWrite cfg i s (s.leaf op).1
  | speed (s : State) (m : Fin 2) (v : Int) (h : i.setsSpeed) :
      CommandWrite cfg i s (s.storeSpeed m (clampSpeed v))
  | blink (s : State) (interval : W32) :
      CommandWrite cfg i s { s with blinkTimer := interval, blinkActive := true }
  | subscribe (s : State) (n : Nat) (mask : BitVec 12) :
      CommandWrite cfg i s (s.modifySlot n fun u => { u with mask := u.mask ||| mask })
  | unsubscribe (s : State) (slot : BitVec 4) (mask : BitVec 12) (h : i = .bunsub slot mask) :
      CommandWrite cfg i s (s.modifySlot slot.toNat fun u =>
        { mask := u.mask &&& ~~~mask, pend := u.pend &&& ~~~mask })
  | acknowledge (s : State) (slot : BitVec 4) (mask : BitVec 12) (h : i = .back slot mask) :
      CommandWrite cfg i s (s.modifySlot slot.toNat fun u => { u with pend := u.pend &&& ~~~mask })
  | memory (s : State) (space : Space) (a : Nat) (v : Byte) :
      CommandWrite cfg i s (s.memWrite space a v)
  | bus (s : State) (isOpen : Bool) : CommandWrite cfg i s { s with i2cOpen := isOpen }
  | tunable (s : State) (t : Tunable) (v : W32) (h : tunableAllows t v s = none) :
      CommandWrite cfg i s (s.writeTunable t v)
  | readStarts (s : State) (n : BitVec 8) (h : i = .urd n) (idle : s.us.st = .idle) (hn : n ≠ 0) :
      CommandWrite cfg i s { s with us := { startRead n s.us with st := .gap, ctr := 0 } }
  | readClears (s : State) (h : i = .urd 0) (idle : s.us.st = .idle) :
      CommandWrite cfg i s { s with us := startRead 0 s.us }
  | readFinishes (s : State) (idle : s.us.st = .idle) (none : s.us.cnt = 0) :
      CommandWrite cfg i s { s with us := finishEngine cfg s.us }
  | readCancelled (s : State) (low : s.trig = false) :
      CommandWrite cfg i s
        { s with us := { s.us with st := .idle, res := .cancelled, dist := 0, done := true } }
  | readCollected (s : State) (h : i = .uget) :
      CommandWrite cfg i s { s with us := { s.us with done := false } }

/-- Writes of command `i`, one after the other. -/
abbrev CommandWrites (cfg : Config) (i : Instr) : State → State → Prop :=
  Relation.ReflTransGen (CommandWrite cfg i)

/-- What every write of a command keeps, all of them keep. -/
theorem CommandWrites.keeps {P : State → Prop} {cfg : Config} {i : Instr} {s t : State}
    (step : ∀ a b, CommandWrite cfg i a b → P a → P b) (h : CommandWrites cfg i s t) (hs : P s) :
    P t := by
  induction h with
  | refl => exact hs
  | tail _ w ih => exact step _ _ w ih

theorem State.memWrite_cfg (s : State) (space : Space) (a : Nat) (v : Byte) :
    (s.memWrite space a v).cfg = s.cfg := by
  rcases s.memWrite_cases space a v with ⟨_, _, e⟩ | ⟨_, _, e⟩ | e
  all_goals rw [e]

theorem State.writeTunable_cfg (s : State) (t : Tunable) (v : W32) :
    (s.writeTunable t v).cfg = s.cfg := by
  cases t with
  | btnEn =>
    rw [State.writeTunable]
    split
    · rfl
    · rfl
  | btnDebounce | btnDpwin | btnHoldmin | usOffset | usSampleTo | usOverall | usGap => rfl

/-- No command writes the parameters. -/
theorem CommandWrite.cfg_eq {cfg : Config} {i : Instr} {s t : State} (w : CommandWrite cfg i s t) :
    t.cfg = s.cfg := by
  cases w with
  | leaf op => exact s.leaf_cfg op
  | memory space a v => exact s.memWrite_cfg space a v
  | tunable t v => exact s.writeTunable_cfg t v
  | speed | blink | subscribe | unsubscribe | acknowledge | bus => rfl
  | readStarts | readClears | readFinishes | readCancelled | readCollected => rfl

/-! ### A run of a command -/

/-- What UGET leaves when it reports that a read failed (44_ultrasound.md R262). -/
def State.Collected (i : Instr) (s t : State) : Prop :=
  i = .uget ∧ t = { s with us := { s.us with done := false } }

/-- A run of command `i` given in state `s`: only writes of the command were made, and an error
other than a transport failure was raised before the first of them, or reports a collected read. -/
structure Run.Follows (i : Instr) (s : State) (r : Run) : Prop where
  wrote : CommandWrites s.cfg i s r.state
  rejects : ∀ f, r.failure = some f → f.status ≠ .transportFailure →
    r.state = s ∨ s.Collected i r.state

theorem Run.start_follows (i : Instr) (s : State) : (Run.start s).Follows i s :=
  ⟨.refl, fun _ _ _ => .inl rfl⟩

namespace Run.Follows
variable {i : Instr} {s : State} {r : Run}

theorem cfg_eq (h : r.Follows i s) : r.state.cfg = s.cfg :=
  h.wrote.keeps (P := fun t => t.cfg = s.cfg) (fun _ _ w e => w.cfg_eq.trans e) rfl

/-- A step that a raised failure skips is looked at only where none is. -/
theorem andThen (h : r.Follows i s) {g : Run → Run} (hg : r.failure = none → (g r).Follows i s) :
    (r.andThen g).Follows i s := by
  rw [Run.andThen]
  split
  next running => exact hg running
  next => exact h

theorem writes (h : r.Follows i s) {g : State → State}
    (hg : r.failure = none → CommandWrites s.cfg i r.state (g r.state)) : (r.write g).Follows i s :=
  h.andThen fun running =>
    ⟨h.wrote.trans (hg running), fun _ raised => absurd (running.symm.trans raised) nofun⟩

theorem write (h : r.Follows i s) {g : State → State}
    (hg : r.failure = none → CommandWrite s.cfg i r.state (g r.state)) : (r.write g).Follows i s :=
  h.writes fun running => .single (hg running)

theorem engine (h : r.Follows i s) {g : Engine → Engine}
    (hg : r.failure = none → CommandWrite s.cfg i r.state { r.state with us := g r.state.us }) :
    (r.engine g).Follows i s := h.write hg

theorem answer (h : r.Follows i s) (v : State → W32) : (r.answer v).Follows i s :=
  h.andThen fun _ => ⟨h.wrote, h.rejects⟩

theorem raise (h : r.Follows i s) {f : Failure}
    (hf : f.status = .transportFailure ∨ r.state = s ∨ s.Collected i r.state) :
    (r.raise f).Follows i s := by
  refine h.andThen fun _ => ⟨h.wrote, fun g raised other => ?_⟩
  obtain rfl := Option.some.inj raised
  exact hf.resolve_left other

theorem raiseIf (h : r.Follows i s) (c : Bool) {f : Failure}
    (hf : f.status = .transportFailure ∨ r.state = s ∨ s.Collected i r.state) :
    (r.raiseIf c f).Follows i s := by
  cases c with
  | false => exact h
  | true => exact h.raise hf

theorem leaf (h : r.Follows i s) {op : LeafOp} (hop : op.OfCommand s.cfg) :
    (r.leaf op).Follows i s := by
  have made := h.wrote.tail (.leaf r.state op hop)
  rcases r.leaf_cases op with ⟨_, e⟩ | ⟨running, _, e⟩ | ⟨_, _, e⟩
  · rw [e]; exact h
  · rw [e]; exact ⟨made, fun _ raised => absurd (running.symm.trans raised) nofun⟩
  · rw [e]
    refine ⟨made, fun f raised other => absurd ?_ other⟩
    rw [← Option.some.inj raised]

theorem leaves (h : r.Follows i s) {ops : List LeafOp} (hops : ∀ op ∈ ops, op.OfCommand s.cfg) :
    (r.leaves ops).Follows i s := by
  induction ops generalizing r with
  | nil => exact h
  | cons op ops ih =>
    rw [Run.leaves_cons]
    exact ih (h.leaf (hops op List.mem_cons_self)) fun o ho => hops o (List.mem_cons_of_mem _ ho)

/-- A selector is checked before anything is written (60_exceptions.md R325). -/
theorem withSelector {n : Nat} {sel : BitVec 4} {info : W32} {k : Fin n → Run → Run}
    (hk : ∀ j : Fin n, j.val = sel.toNat → (k j (Run.start s)).Follows i s) :
    ((Run.start s).withSelector n sel info k).Follows i s := by
  have start := Run.start_follows i s
  rw [Run.withSelector, selector]
  split
  next j hj =>
    split at hj
    · obtain rfl := Option.some.inj hj
      exact start.andThen fun _ => hk _ rfl
    · cases hj
  next => exact start.raise (.inr (.inl rfl))

end Run.Follows

/-! ### Operands of leaf operations -/

theorem clampSpeed_bounds (v : Int) : -16384 ≤ clampSpeed v ∧ clampSpeed v ≤ 16384 := by
  simp only [clampSpeed, clamp, ONE, Nat.cast_ofNat]
  split_ifs <;> omega

/-- Both duties of a clamped speed are in 0..ONE or the brake duty (40_motor.md R122). -/
theorem dutyPair_ofCommand (cfg : Config) (v : Int) :
    ((dutyPair cfg (clampSpeed v)).1.toNat ≤ ONE ∨
        (dutyPair cfg (clampSpeed v)).1 = cfg.brakeNegDuty) ∧
      ((dutyPair cfg (clampSpeed v)).2.toNat ≤ ONE ∨
        (dutyPair cfg (clampSpeed v)).2 = cfg.brakeNegDuty) := by
  obtain ⟨low, high⟩ := clampSpeed_bounds v
  have one : ONE = 16384 := rfl
  rcases lt_trichotomy (clampSpeed v) 0 with neg | zero | pos
  · obtain ⟨p, n⟩ := dutyPair_of_neg cfg neg low
    omega
  · rw [zero, dutyPair_zero]
    exact ⟨.inl (Nat.le_refl ONE), .inr rfl⟩
  · obtain ⟨p, n⟩ := dutyPair_of_pos cfg pos high
    omega

theorem clampUnit_duty (v : Int) : (dutyOf (clampUnit v)).toNat ≤ ONE := by
  rw [dutyOf_toNat (clampUnit_le_one v)]
  exact clampUnit_le_one v

theorem dutyOfBool_le_one (on : Bool) : (dutyOfBool on).toNat ≤ ONE := by
  cases on <;> decide

theorem enableBytes_form (cfg : Config) : BusForm cfg (enableBytes cfg) := .inl rfl

theorem disableBytes_form (cfg : Config) : BusForm cfg (disableBytes cfg) := .inr (.inl rfl)

theorem valuesBytes_form (cfg : Config) {vs : List Byte} (h : vs.length = 18) :
    BusForm cfg (valuesBytes cfg vs) := .inr (.inr (.inl ⟨vs, rfl, h⟩))

theorem updateBytes_form (cfg : Config) : BusForm cfg (updateBytes cfg) :=
  .inr (.inr (.inr (.inr (.inl rfl))))

theorem resetBytes_form (cfg : Config) : BusForm cfg (resetBytes cfg) :=
  .inr (.inr (.inr (.inr (.inr rfl))))

/-- Each group of the mask has six bits (20_memory.md R67). -/
theorem maskBytes_form (cfg : Config) (m : BitVec 18) : BusForm cfg (maskBytes cfg m) := by
  have group (start : Nat) : ((m.extractLsb' start 6).setWidth 8).toNat < 64 := by
    rw [BitVec.toNat_setWidth]
    exact Nat.lt_of_le_of_lt (Nat.mod_le _ _) (m.extractLsb' start 6).isLt
  exact .inr (.inr (.inr (.inl ⟨_, _, _, rfl, group 0, group 6, group 12⟩)))

theorem State.bytes18_length (s : State) (space : Space) : (s.bytes18 space).length = 18 := by
  rw [State.bytes18, List.length_map, List.length_range, nChannel]

/-! ### Writes made of several -/

section writes
variable (cfg : Config) (i : Instr) (s : State)

/-- A row of writes, one for each element of a list. -/
theorem commandWrites_foldl {α : Type} {f : State → α → State} (l : List α)
    (step : ∀ t, ∀ a ∈ l, CommandWrites cfg i t (f t a)) : CommandWrites cfg i s (l.foldl f s) := by
  induction l generalizing s with
  | nil => exact .refl
  | cons a l ih =>
    exact (step s a List.mem_cons_self).trans
      (ih (f s a) fun t b hb => step t b (List.mem_cons_of_mem _ hb))

theorem commandWrites_setLight (l : Fin 6) (r g b : Byte) :
    CommandWrites cfg i s (s.setLight l r g b) :=
  .tail (.tail (.single (.memory s _ _ _)) (.memory _ _ _ _)) (.memory _ _ _ _)

theorem commandWrites_setAllLights (r g b : Byte) : CommandWrites cfg i s (s.setAllLights r g b) :=
  commandWrites_foldl cfg i s _ fun t l _ => commandWrites_setLight cfg i t l r g b

theorem commandWrites_clearFrame : CommandWrites cfg i s s.clearFrame :=
  commandWrites_foldl cfg i s _ fun t a _ => .single (.memory t _ a _)

theorem commandWrites_tryWrites {writes : List (List Byte)} (k : Nat)
    (forms : ∀ w ∈ writes, BusForm cfg w) : CommandWrites cfg i s (s.tryWrites writes k).1 := by
  induction writes generalizing s k with
  | nil => exact .refl
  | cons w rest ih =>
    have first : CommandWrite cfg i s (s.leaf (.i2cWrite w)).1 :=
      .leaf s (.i2cWrite w) (forms w List.mem_cons_self)
    exact (Relation.ReflTransGen.single first).trans
      (ih _ (k + 1) fun v hv => forms v (List.mem_cons_of_mem _ hv))

theorem finiWrites_forms : ∀ w ∈ finiWrites cfg, BusForm cfg w := by
  intro w hw
  simp only [finiWrites, List.mem_cons, List.not_mem_nil, or_false] at hw
  rcases hw with rfl | rfl | rfl | rfl
  · exact valuesBytes_form cfg List.length_replicate
  · exact updateBytes_form cfg
  · exact enableBytes_form cfg
  · exact disableBytes_form cfg

end writes

/-! ### The steps the families share -/

namespace Run.Follows
variable {i : Instr} {s : State} {r : Run}

theorem setSpeed (h : r.Follows i s) (hi : i.setsSpeed) (m : Fin 2) (v : Int) :
    (r.setSpeed m v).Follows i s := by
  obtain ⟨pos, neg⟩ := dutyPair_ofCommand s.cfg v
  rw [← h.cfg_eq] at pos neg
  refine (h.write fun _ => .speed _ m v hi).leaves fun op hop => ?_
  simp only [List.mem_cons, List.not_mem_nil, or_false] at hop
  rw [← h.cfg_eq]
  rcases hop with rfl | rfl | rfl
  · trivial
  · exact pos
  · exact neg

theorem setSpeeds (h : r.Follows i s) (hi : i.setsSpeed) (left right : Int) :
    (r.setSpeeds left right).Follows i s := (h.setSpeed hi 0 left).setSpeed hi 1 right

/-- Rows of PWM writes of one duty in 0..ONE, as LED commands make them. -/
theorem ledAll (h : r.Follows i s) {d : W16} (hd : d.toNat ≤ ONE) : (r.ledAll d).Follows i s := by
  refine h.leaves fun op hop => ?_
  simp only [List.mem_cons, List.not_mem_nil, or_false] at hop
  rcases hop with rfl | rfl | rfl | rfl
  all_goals exact .inl hd

theorem disable (h : r.Follows i s) : r.disable.Follows i s := by
  refine h.leaves fun op hop => ?_
  simp only [List.mem_cons, List.not_mem_nil, or_false] at hop
  rcases hop with rfl | rfl | rfl | rfl | rfl
  · trivial
  all_goals exact .inl (by decide)

theorem i2c (h : r.Follows i s) {bytes : List Byte} (form : BusForm s.cfg bytes) :
    (r.i2c bytes).Follows i s := h.leaf (op := .i2cWrite bytes) form

theorem output (h : r.Follows i s) {vs : List Byte} (length : vs.length = 18) :
    (r.output vs).Follows i s := by
  rw [Run.output, h.cfg_eq]
  exact (h.i2c (valuesBytes_form _ length)).i2c (updateBytes_form _)

theorem showFrame (h : r.Follows i s) : r.showFrame.Follows i s := by
  refine h.andThen fun _ => ?_
  rw [h.cfg_eq]
  exact (h.output (by rw [List.length_map, State.bytes18_length])).i2c (enableBytes_form _)

theorem showIf (h : r.Follows i s) (showNow : Bool) : (r.showIf showNow).Follows i s := by
  cases showNow with
  | false => exact h
  | true => exact h.showFrame

/-- The checks of operands come before anything is written (60_exceptions.md R325). -/
theorem checkRgb (i : Instr) (s : State) (red green blue : W16) :
    ((Run.start s).checkRgb red green blue).Follows i s := by
  have start := Run.start_follows i s
  exact ((start.raiseIf _ (.inr (.inl rfl))).raiseIf _ (.inr (.inl (by simp)))).raiseIf _
    (.inr (.inl (by simp)))

end Run.Follows

/-- What UINIT does before its bus writes (43_underlight.md R231). -/
def State.opened (s : State) : State := ({ s with i2cOpen := true } : State).clearFrame

/-- Every failure of the run is a transport failure. -/
def Run.OnlyTransport (r : Run) : Prop := ∀ f, r.failure = some f → f.status = .transportFailure

theorem Run.OnlyTransport.i2c {r : Run} (h : r.OnlyTransport) (bytes : List Byte) :
    (r.i2c bytes).OnlyTransport := by
  rcases r.leaf_cases (.i2cWrite bytes) with ⟨_, e⟩ | ⟨running, _, e⟩ | ⟨_, _, e⟩
  · rw [Run.i2c, e]; exact h
  · rw [Run.i2c, e]; exact fun f raised => absurd (running.symm.trans raised) nofun
  · rw [Run.i2c, e]
    intro f raised
    rw [← Option.some.inj raised]

theorem Run.write_onlyTransport (s : State) (g : State → State) :
    ((Run.start s).write g).OnlyTransport := nofun

namespace Run.Follows
variable {i : Instr} {s : State} {r : Run}

/-- A construction that failed on the bus releases it (43_underlight.md R231). -/
theorem releaseOnFailure (h : r.Follows i s) (transport : r.OnlyTransport) :
    r.releaseOnFailure.Follows i s := by
  rw [Run.releaseOnFailure]
  split
  next => exact h
  next f raised =>
    exact ⟨h.wrote.tail (.bus _ false), fun g hg other => absurd (transport g hg) other⟩

/-- UGET reports the outcome of the read it has collected (44_ultrasound.md R262). -/
theorem readOutcome (h : r.Follows i s) (collected : s.Collected i r.state) :
    r.readOutcome.Follows i s := by
  rw [Run.readOutcome]
  split
  · exact h.answer _
  all_goals exact h.raise (.inr (.inr collected))

end Run.Follows

/-! ### The commands -/

/-- A command admitted or not is a run that follows its writes, ended by `Run.retire`. -/
theorem command_follows {i : Instr} {s : State} {checks : List Check} {body : Run → Run}
    (hbody : firstFailure checks s = none → (body (Run.start s)).Follows i s) :
    ∃ r : Run, r.Follows i s ∧ command i checks body s = .next (r.retire (encode i)) := by
  rcases command_cases i checks body s with ⟨f, _, e⟩ | ⟨admitted, e⟩
  · refine ⟨⟨s, 0, some f, 0⟩, ⟨.refl, fun _ _ _ => .inl rfl⟩, ?_⟩
    rw [e, Run.retire_some]
  · exact ⟨_, hbody admitted, e⟩

theorem firstFailure_cons_eq_none {c : Check} {rest : List Check} {s : State} :
    firstFailure (c :: rest) s = none ↔ c s = none ∧ firstFailure rest s = none := by
  cases h : c s with
  | none => simp only [firstFailure_cons_none h, true_and]
  | some f => simp only [firstFailure_cons_some h, reduceCtorEq, false_and]

theorem engineIdle_eq_none {s : State} : engineIdle s = none ↔ s.us.st = .idle := by
  refine ⟨fun passed => ?_, engineIdle_none⟩
  by_contra running
  rw [engineIdle_some running] at passed
  cases passed

theorem State.leaf_trig (s : State) (v : Bool) : (s.leaf (.gpioWrite .trig v)).1.trig = v := by
  rw [State.leaf]
  split
  · rfl
  · rfl

/-- The line is at the value driven, whatever the answer is (60_exceptions.md R331). -/
theorem Run.start_leaf_trig (s : State) (v : Bool) :
    ((Run.start s).leaf (.gpioWrite .trig v)).state.trig = v := by
  rcases (Run.start s).leaf_cases (.gpioWrite .trig v) with ⟨failed, _⟩ | ⟨_, _, e⟩ | ⟨_, _, e⟩
  · exact absurd rfl failed
  · rw [e]; exact s.leaf_trig v
  · rw [e]; exact s.leaf_trig v

/-- Everything a command but SRST can do: its pseudocode is followed step by step. -/
theorem exec_follows (s : State) (i : Instr) (h : i ≠ .srst) :
    ∃ r : Run, r.Follows i s ∧ exec i s = .next (r.retire (encode i)) := by
  have start := Run.start_follows i s
  cases i with
  | srst => exact absurd rfl h
  | nop =>
    rw [exec, execNop]
    exact command_follows fun _ => start
  | rd reg =>
    rw [exec, execRd]
    refine command_follows fun _ => ?_
    split
    · exact start.answer _
    · exact start
  | wr reg value =>
    rw [exec, execWr]
    refine command_follows fun admitted => ?_
    obtain ⟨-, rest⟩ := firstFailure_cons_eq_none.mp admitted
    obtain ⟨-, rest⟩ := firstFailure_cons_eq_none.mp rest
    obtain ⟨allowed, -⟩ := firstFailure_cons_eq_none.mp rest
    split
    next t ht =>
      simp only [writeAllowed, ht] at allowed
      exact (start.write fun _ => .tunable s t value allowed).answer _
    next => exact start
  | mset motor speed =>
    rw [exec, execMset]
    refine command_follows fun _ => .withSelector fun m _ => start.setSpeed ?_ m _
    exact .inr (.inl ⟨motor, speed, rfl⟩)
  | mboth v | mfwd v | mbwd v | mtl v | mtr v | mcfl v | mcfr v | mcbl v | mcbr v =>
    simp only [exec, execMboth, execMfwd, execMbwd, execMtl, execMtr, execMcfl, execMcfr,
      execMcbl, execMcbr]
    refine command_follows fun _ => start.setSpeeds ?_ _ _
    exact .inr (.inr ⟨v, by simp⟩)
  | mstop =>
    rw [exec, execMstop]
    exact command_follows fun _ => start.setSpeeds (.inl rfl) _ _
  | mdis | mcoast =>
    simp only [exec, execMdis, execMcoast]
    exact command_follows fun _ => start.disable
  | bled button intensity =>
    rw [exec, execBled]
    exact command_follows fun _ => .withSelector fun _ _ =>
      start.leaf (op := .pwmSet _ _) (.inl (clampUnit_duty _))
  | bledb button on =>
    rw [exec, execBledb]
    exact command_follows fun _ => .withSelector fun _ _ =>
      start.leaf (op := .pwmSet _ _) (.inl (dutyOfBool_le_one on))
  | bledall intensity =>
    rw [exec, execBledall]
    exact command_follows fun _ => start.ledAll (clampUnit_duty _)
  | bledallb on =>
    rw [exec, execBledallb]
    exact command_follows fun _ => start.ledAll (dutyOfBool_le_one on)
  | bhold button =>
    rw [exec, execBhold]
    exact command_follows fun _ => .withSelector fun _ _ => start.answer _
  | bsub slot mask =>
    rw [exec, execBsub]
    exact command_follows fun _ => .withSelector fun _ _ =>
      (start.write fun _ => .subscribe s _ mask).answer _
  | bunsub slot mask =>
    rw [exec, execBunsub]
    refine command_follows fun _ => .withSelector fun j hj => ?_
    rw [hj]
    exact (start.write fun _ => .unsubscribe s slot mask rfl).answer _
  | back slot mask =>
    rw [exec, execBack]
    refine command_follows fun _ => .withSelector fun j hj => ?_
    rw [hj]
    exact (start.answer _).write fun _ => .acknowledge s slot mask rfl
  | bblink interval =>
    rw [exec, execBblink]
    exact command_follows fun _ =>
      (start.ledAll (by decide)).write fun _ => .blink _ interval
  | snen =>
    rw [exec, execSnen]
    exact command_follows fun _ => start.i2c (enableBytes_form _)
  | sndis =>
    rw [exec, execSndis]
    exact command_follows fun _ => start.i2c (disableBytes_form _)
  | snrst =>
    rw [exec, execSnrst]
    exact command_follows fun _ => start.i2c (resetBytes_form _)
  | snupd =>
    rw [exec, execSnupd]
    exact command_follows fun _ => start.i2c (updateBytes_form _)
  | snmask mask =>
    rw [exec, execSnmask]
    exact command_follows fun _ =>
      (start.i2c (maskBytes_form _ mask)).i2c (updateBytes_form _)
  | snout len =>
    rw [exec, execSnout]
    exact command_follows fun _ => (start.raiseIf _ (.inr (.inl rfl))).output
      (by rw [List.length_map, State.bytes18_length])
  | snoutr len =>
    rw [exec, execSnoutr]
    exact command_follows fun _ => (start.raiseIf _ (.inr (.inl rfl))).output
      (State.bytes18_length _ _)
  | stw idx byte =>
    rw [exec, execStw]
    exact command_follows fun _ =>
      (start.raiseIf _ (.inr (.inl rfl))).write fun _ => .memory _ _ _ _
  | str idx =>
    rw [exec, execStr]
    exact command_follows fun _ => (start.raiseIf _ (.inr (.inl rfl))).answer _
  | uinit =>
    rw [exec, execUinit]
    have opened := start.writes (g := State.opened) fun _ =>
      .head (.bus s true) (commandWrites_clearFrame s.cfg .uinit _)
    have sent := (((opened.i2c (resetBytes_form _)).i2c (maskBytes_form _ 0x3FFFF)).i2c
      (updateBytes_form _)).i2c (disableBytes_form _)
    exact command_follows fun _ => sent.releaseOnFailure
      (((((Run.write_onlyTransport s _).i2c _).i2c _).i2c _).i2c _)
  | ufini =>
    rw [exec, execUfini]
    refine command_follows fun _ => (start.writes fun _ => ?_).raiseIf _ (.inl rfl)
    exact ((commandWrites_clearFrame s.cfg .ufini s).trans
      (commandWrites_tryWrites _ _ _ 0 (finiWrites_forms s.cfg))).tail (.bus _ false)
  | uset light showNow r g b =>
    rw [exec, execUset]
    exact command_follows fun _ => .withSelector fun _ _ =>
      ((Run.Follows.checkRgb _ s r g b).writes fun _ =>
        commandWrites_setLight _ _ _ _ _ _ _).showIf showNow
  | ufill showNow r g b =>
    rw [exec, execUfill]
    exact command_follows fun _ =>
      ((Run.Follows.checkRgb _ s r g b).writes fun _ =>
        commandWrites_setAllLights _ _ _ _ _ _).showIf showNow
  | uclr light showNow =>
    rw [exec, execUclr]
    exact command_follows fun _ => .withSelector fun _ _ =>
      (start.writes fun _ => commandWrites_setLight _ _ _ _ _ _ _).showIf showNow
  | uclrall showNow =>
    rw [exec, execUclrall]
    exact command_follows fun _ =>
      (start.writes fun _ => commandWrites_setAllLights _ _ _ _ _ _).showIf showNow
  | ushow =>
    rw [exec, execUshow]
    exact command_follows fun _ => start.showFrame
  | uhsv light showNow =>
    rw [exec, execUhsv]
    exact command_follows fun _ => .withSelector fun _ _ =>
      ((start.writes fun _ => commandWrites_setLight _ _ _ _ _ _ _).showIf showNow).answer _
  | ufillhsv showNow =>
    rw [exec, execUfillhsv]
    exact command_follows fun _ =>
      ((start.writes fun _ => commandWrites_setAllLights _ _ _ _ _ _).showIf showNow).answer _
  | urd n =>
    rw [exec, execUrd]
    refine command_follows fun admitted => ?_
    obtain ⟨-, rest⟩ := firstFailure_cons_eq_none.mp admitted
    obtain ⟨passed, -⟩ := firstFailure_cons_eq_none.mp rest
    have idle := engineIdle_eq_none.mp passed
    split
    next zero =>
      subst zero
      have us : (((Run.start s).engine (startRead 0)).leaf (.gpioWrite .trig false)).state.us =
          startRead 0 s.us :=
        Run.leaf_keeps (P := fun t => t.us = startRead 0 s.us)
          (fun t op kept => (t.leaf_us op).trans kept) _ _ rfl
      have cleared : ((Run.start s).engine (startRead 0)).Follows (.urd 0) s :=
        start.write fun _ => .readClears s rfl idle
      exact (cleared.leaf (op := .gpioWrite .trig false) rfl).engine (g := finishEngine s.cfg)
        fun _ => .readFinishes _ (by rw [us]; exact idle) (by rw [us]; rfl)
    next some =>
      exact start.write
        (g := fun s => { s with us := { startRead n s.us with st := .gap, ctr := 0 } })
        fun _ => .readStarts s n rfl idle some
  | ucancel =>
    rw [exec, execUcancel]
    refine command_follows fun _ => ?_
    split
    · exact start
    · exact ((start.leaf (op := .gpioWrite .trig false) rfl).write fun _ =>
        .readCancelled _ (Run.start_leaf_trig s false)).answer _
  | uget =>
    rw [exec, execUget]
    exact command_follows fun _ =>
      (start.write fun _ => .readCollected s rfl).readOutcome ⟨rfl, rfl⟩

end Sys2Proof.Machine

/-! SUPPORT. The tick step by agent (00_scope.md R7): what it makes of one button channel with its
event counts and its pending bits, of the blink timer and of the engine's registers, and what it
leaves. -/

namespace Sys2Proof.Machine

/-! ### The notify steps of one channel -/

/-- Notify steps of one button count its events in order (41_button.md R171). -/
theorem State.emits_evcnt (b : Fin 4) (ks : List EventKind) (s : State) :
    (ks.foldl (fun s k => s.emit b k) s).evcnt.get b =
      ks.foldl EventCounts.bump (s.evcnt.get b) := by
  induction ks generalizing s with
  | nil => rfl
  | cons k ks ih => rw [List.foldl_cons, List.foldl_cons, ih, State.emit_evcnt_get, if_pos rfl]

theorem State.emits_subs_length (b : Fin 4) (ks : List EventKind) (s : State) :
    (ks.foldl (fun s k => s.emit b k) s).subs.length = s.subs.length := by
  induction ks generalizing s with
  | nil => rfl
  | cons k ks ih => rw [List.foldl_cons, ih]; exact List.length_map ..

/-- Notify steps of one button set the pending bits of its events where the slot is subscribed to
them, and no other bit (41_button.md R171). -/
theorem State.emits_pend (b : Fin 4) (ks : List EventKind) (s : State) (i j : Nat) :
    ((ks.foldl (fun s k => s.emit b k) s).slot i).pend.getLsbD j =
      ((s.slot i).pend.getLsbD j ||
        (ks.any (fun k => decide (j = eventBit b k)) && (s.slot i).mask.getLsbD j)) := by
  induction ks generalizing s with
  | nil => simp
  | cons k ks ih =>
    rw [List.foldl_cons, ih, State.emit_slot_eq, Subscriber.notify_mask,
      Subscriber.notify_pend_getLsbD, List.any_cons]
    by_cases own : j = eventBit b k
    · subst own
      rw [Bool.or_assoc, ← Bool.and_or_distrib_right]
    · simp [own]

/-! ### One button -/

/-- A button channel and its event counts. -/
def State.button (s : State) (b : Fin 4) : Channel × EventCounts :=
  (s.channels.get b, s.evcnt.get b)

/-- What a tick of an enabled button makes of its channel and its event counts (41_button.md R160,
R171). -/
def buttonAfter (t : ButtonTunables) (now : W32) (r : Bool) (p : Channel × EventCounts) :
    Channel × EventCounts :=
  ((channelTick t now r p.1).1, (channelTick t now r p.1).2.foldl EventCounts.bump p.2)

/-- An event of kind `k` is among those raised. -/
def raises (k : Nat) (events : List EventKind) : Bool := events.any fun e => decide (e.index = k)

section buttonTick
variable (s : State) (b c : Fin 4) (r : Bool)

theorem State.buttonTick_button : (s.buttonTick b r).button c =
    if c = b ∧ s.btnEn = true then buttonAfter s.btnTune s.now r (s.button b) else s.button c := by
  obtain ⟨-, channels, others, -⟩ := s.buttonTick_frame b r
  by_cases enabled : s.btnEn = true
  · by_cases own : c = b
    · subst own
      have counts : (s.buttonTick c r).evcnt.get c =
          (buttonAfter s.btnTune s.now r (s.button c)).2 := by
        rw [State.buttonTick, if_pos enabled]
        exact State.emits_evcnt c _ _
      rw [if_pos ⟨rfl, enabled⟩, State.button, channels, if_pos enabled, Quad.get_set_same, counts]
      rfl
    · rw [if_neg fun h => own h.1, State.button, channels, if_pos enabled, Quad.get_set_ne _ _ own,
        others c own]
      rfl
  · rw [if_neg fun h => enabled h.2, State.buttonTick, if_neg enabled]

theorem State.buttonTick_enabled : (s.buttonTick b r).btnEn = s.btnEn ∧
    (s.buttonTick b r).btnTune = s.btnTune ∧ (s.buttonTick b r).now = s.now := by
  rw [(s.buttonTick_frame b r).1]
  exact ⟨rfl, rfl, rfl⟩

/-- A pending bit of a button after the tick of a channel: set by that channel's events only. -/
theorem State.buttonTick_pend (i : Nat) {k : Nat} (hk : k < 3) :
    ((s.buttonTick b r).slot i).pend.getLsbD (3 * c.val + k) =
      ((s.slot i).pend.getLsbD (3 * c.val + k) ||
        (decide (c = b) && s.btnEn &&
          raises k (channelTick s.btnTune s.now r (s.channels.get b)).2 &&
          (s.slot i).mask.getLsbD (3 * c.val + k))) := by
  have bit (e : EventKind) : (3 * c.val + k = eventBit b e) ↔ c = b ∧ e.index = k := by
    have he : e.index < 3 := by cases e <;> decide
    rw [eventBit, Fin.ext_iff]
    omega
  by_cases enabled : s.btnEn = true
  · rw [State.buttonTick, if_pos enabled, State.emits_pend]
    by_cases own : c = b
    · subst own
      simp [bit, enabled, State.slot, raises]
    · simp [bit, own, State.slot]
  · rw [State.buttonTick, if_neg enabled]
    simp [Bool.eq_false_of_not_eq_true enabled]

theorem State.buttonTick_subs : (s.buttonTick b r).subs.length = s.subs.length ∧
    ∀ i, ((s.buttonTick b r).slot i).mask = (s.slot i).mask := by
  obtain ⟨-, -, -, masks⟩ := s.buttonTick_frame b r
  refine ⟨?_, masks⟩
  rw [State.buttonTick]
  split
  · exact State.emits_subs_length b _ _
  · rfl

end buttonTick

/-! ### The four buttons -/

section buttonTicks
variable (s : State) (x : Sample)

/-- Ticks of the button channels change the channels, the event counts and the pending bits only. -/
theorem State.buttonTicks_frame : s.buttonTicks x =
    { s with channels := (s.buttonTicks x).channels, evcnt := (s.buttonTicks x).evcnt,
             subs := (s.buttonTicks x).subs } := by
  have frame (t u : State) (b : Fin 4) (r : Bool)
      (h : t = { s with channels := t.channels, evcnt := t.evcnt, subs := t.subs })
      (hu : u = t.buttonTick b r) :
      u = { s with channels := u.channels, evcnt := u.evcnt, subs := u.subs } := by
    subst hu
    rw [(t.buttonTick_frame b r).1, h]
  exact frame _ _ _ _ (frame _ _ _ _ (frame _ _ _ _ (frame s _ _ _ rfl rfl) rfl) rfl) rfl

/-- Each button takes its own tick, whatever the other three do. -/
theorem State.buttonTicks_button (b : Fin 4) : (s.buttonTicks x).button b =
    if s.btnEn = true then buttonAfter s.btnTune s.now (x.btn.get b) (s.button b)
    else s.button b := by
  match b with
  | 0 | 1 | 2 | 3 => simp [State.buttonTicks, State.buttonTick_button, State.buttonTick_enabled]

theorem State.buttonTicks_subs : (s.buttonTicks x).subs.length = s.subs.length ∧
    ∀ i, ((s.buttonTicks x).slot i).mask = (s.slot i).mask := by
  simp only [State.buttonTicks, State.buttonTick_subs, implies_true, and_self]

/-- A pending bit of a button is set by the events of its own channel only. -/
theorem State.buttonTicks_pend (b : Fin 4) (i : Nat) {k : Nat} (hk : k < 3) :
    ((s.buttonTicks x).slot i).pend.getLsbD (3 * b.val + k) =
      ((s.slot i).pend.getLsbD (3 * b.val + k) ||
        (s.btnEn && raises k (channelTick s.btnTune s.now (x.btn.get b) (s.channels.get b)).2 &&
          (s.slot i).mask.getLsbD (3 * b.val + k))) := by
  have channel (t : State) (c d : Fin 4) (r : Bool) (h : c ≠ d) :
      (t.buttonTick d r).channels.get c = t.channels.get c := by
    have kept := congrArg Prod.fst (t.buttonTick_button d c r)
    rwa [if_neg fun both => h both.1] at kept
  simp only [State.buttonTicks, State.buttonTick_pend _ _ _ _ _ hk, State.buttonTick_enabled,
    State.buttonTick_subs]
  match b with
  | 0 => simp
  | 1 => simp [channel]
  | 2 => simp [channel]
  | 3 => simp [channel]

end buttonTicks

/-! ### The whole tick -/

section tickStep
variable (s : State) (x : Sample)

/-- What a tick step leaves: everything no agent owns (00_scope.md R7). -/
theorem State.tickStep_frame : s.tickStep x =
    { s with now := s.now + 1, channels := (s.tickStep x).channels, evcnt := (s.tickStep x).evcnt,
             subs := (s.tickStep x).subs, ledDuty := (s.tickStep x).ledDuty,
             blinkActive := (s.tickStep x).blinkActive, blinkTimer := (s.tickStep x).blinkTimer,
             us := (s.tickStep x).us, trig := (s.tickStep x).trig, err := (s.tickStep x).err,
             env := { s.env with asked := (s.tickStep x).env.asked } } := by
  rw [State.tickStep, (State.engineTick_frame _ _).1, (State.blinkTick_frame _).1,
    State.buttonTicks_frame]
  rfl

/-- The button part of a tick step is that of the four channels, at the new time. -/
theorem State.tickStep_buttons : (s.tickStep x).channels = (s.advanceNow.buttonTicks x).channels ∧
    (s.tickStep x).evcnt = (s.advanceNow.buttonTicks x).evcnt ∧
    (s.tickStep x).subs = (s.advanceNow.buttonTicks x).subs := by
  rw [State.tickStep, (State.engineTick_frame _ _).1, (State.blinkTick_frame _).1]
  exact ⟨rfl, rfl, rfl⟩

/-- The blink part of a tick step is that of the blink timer. -/
theorem State.tickStep_blink :
    (s.tickStep x).ledDuty = (s.advanceNow.buttonTicks x).blinkTick.ledDuty ∧
    (s.tickStep x).blinkActive = (s.advanceNow.buttonTicks x).blinkTick.blinkActive ∧
    (s.tickStep x).blinkTimer = (s.advanceNow.buttonTicks x).blinkTick.blinkTimer := by
  rw [State.tickStep, (State.engineTick_frame _ _).1]
  exact ⟨rfl, rfl, rfl⟩

/-- What a tick step makes of one button. -/
theorem State.tickStep_button (b : Fin 4) : (s.tickStep x).button b =
    if s.btnEn = true then buttonAfter s.btnTune (s.now + 1) (x.btn.get b) (s.button b)
    else s.button b := by
  obtain ⟨channels, evcnt, -⟩ := s.tickStep_buttons x
  rw [State.button, channels, evcnt]
  exact State.buttonTicks_button s.advanceNow x b

/-- What a tick step makes of the slots. -/
theorem State.tickStep_subs : (s.tickStep x).subs.length = s.subs.length ∧
    ∀ i, ((s.tickStep x).slot i).mask = (s.slot i).mask := by
  obtain ⟨-, -, subs⟩ := s.tickStep_buttons x
  simp only [State.slot_congr subs, subs]
  exact State.buttonTicks_subs s.advanceNow x

/-- What a tick step makes of a pending bit. -/
theorem State.tickStep_pend (b : Fin 4) (i : Nat) {k : Nat} (hk : k < 3) :
    ((s.tickStep x).slot i).pend.getLsbD (3 * b.val + k) =
      ((s.slot i).pend.getLsbD (3 * b.val + k) ||
        (s.btnEn &&
          raises k (channelTick s.btnTune (s.now + 1) (x.btn.get b) (s.channels.get b)).2 &&
          (s.slot i).mask.getLsbD (3 * b.val + k))) := by
  obtain ⟨-, -, subs⟩ := s.tickStep_buttons x
  rw [State.slot_congr subs]
  exact State.buttonTicks_pend s.advanceNow x b i hk

/-- With the buttons disabled a tick leaves their part. -/
theorem State.tickStep_buttons_disabled (disabled : s.btnEn = false) :
    (s.tickStep x).channels = s.channels ∧ (s.tickStep x).evcnt = s.evcnt ∧
      (s.tickStep x).subs = s.subs := by
  have idle (t : State) (b : Fin 4) (r : Bool) (h : t.btnEn = false) : t.buttonTick b r = t :=
    if_neg (by rw [h]; exact Bool.false_ne_true)
  have all : s.advanceNow.buttonTicks x = s.advanceNow := by
    rw [State.buttonTicks, idle s.advanceNow 0 _ disabled, idle s.advanceNow 1 _ disabled,
      idle s.advanceNow 2 _ disabled, idle s.advanceNow 3 _ disabled]
  have parts := s.tickStep_buttons x
  rwa [all] at parts

/-- With no blink a tick leaves the LEDs and the blink timer. -/
theorem State.tickStep_no_blink (inactive : s.blinkActive = false) :
    (s.tickStep x).ledDuty = s.ledDuty ∧ (s.tickStep x).blinkActive = false ∧
      (s.tickStep x).blinkTimer = s.blinkTimer := by
  have frame := State.buttonTicks_frame s.advanceNow x
  have same : (s.advanceNow.buttonTicks x).blinkTick = s.advanceNow.buttonTicks x :=
    (State.blinkTick_frame _).2.1 (by rw [frame]; exact inactive)
  obtain ⟨leds, active, timer⟩ := s.tickStep_blink x
  rw [leds, active, timer, same, frame]
  exact ⟨rfl, inactive, rfl⟩

/-- With the engine idle a tick leaves its registers and the trigger line. -/
theorem State.tickStep_engine_idle (idle : s.us.st = .idle) :
    (s.tickStep x).us = s.us ∧ (s.tickStep x).trig = s.trig := by
  obtain ⟨-, us, -, trig⟩ := s.beforeEngine_frame x
  have same := (State.engineTick_frame (s.advanceNow.buttonTicks x).blinkTick x.echo).2 (us ▸ idle)
  rw [State.tickStep, same]
  exact ⟨us, trig⟩

end tickStep

end Sys2Proof.Machine

/-! SUPPORT. A tick of the running ultrasound engine (44_ultrasound.md R265 to R272) as a move: new
registers, with at most one write of the trigger line on the way. The waits for the echo. Settles
the statements O30, O48 and O49. -/

namespace Sys2Proof.Machine

/-! ### The move of a tick -/

/-- What a tick makes of the engine's registers: `quiet`, they become `u`; `drive`, they become
`before`, TRIG is driven, and if that succeeds they become `after`. -/
inductive EngineMove where
  | quiet (u : Engine)
  | drive (line : Bool) (before after : Engine)

/-- EndSample with the registers at `u`, at a tick with the echo level `e` (44_ultrasound.md
R270). -/
def Engine.sampleEnds (cfg : Config) (t : UsTunables) (e : Bool) (u : Engine) : EngineMove :=
  if u.idx.toNat < u.req.toNat then .quiet { u with st := .gap, ctr := t.gap, eprev := e }
  else .drive false u { finishEngine cfg u with eprev := e }

/-- WAIT_RISE (44_ultrasound.md R268). -/
def Engine.riseMove (cfg : Config) (t : UsTunables) (e : Bool) (u : Engine) : EngineMove :=
  let w := { u with scnt := upSat u.scnt }
  if u.eprev = false ∧ e = true then .quiet { w with stopw := 0, st := .waitFall, eprev := e }
  else if t.sampleTo.toNat ≤ w.scnt.toNat then w.sampleEnds cfg t e
  else .quiet { w with eprev := e }

/-- WAIT_FALL (44_ultrasound.md R269). -/
def Engine.fallMove (cfg : Config) (t : UsTunables) (e : Bool) (u : Engine) : EngineMove :=
  let w := { u with scnt := upSat u.scnt, stopw := upSat u.stopw }
  if u.eprev = true ∧ e = false then (addSample t.offset w).sampleEnds cfg t e
  else if t.sampleTo.toNat ≤ w.scnt.toNat then w.sampleEnds cfg t e
  else .quiet { w with eprev := e }

/-- GAP (44_ultrasound.md R266). -/
def Engine.gapMove (cfg : Config) (u : Engine) : EngineMove :=
  if u.ctr = 0 then .drive true u { u with st := .trig, ctr := cfg.trigTicks, idx := u.idx + 1 }
  else .quiet { u with ctr := u.ctr - 1 }

/-- TRIG (44_ultrasound.md R267). -/
def Engine.trigMove (e : Bool) (u : Engine) : EngineMove :=
  let w := { u with ctr := u.ctr - 1 }
  if w.ctr = 0 then .drive false w { w with st := .waitRise, scnt := 0, eprev := e } else .quiet w

/-- The tick of a phase of the read, already counted in US_OCNT (44_ultrasound.md R265). -/
def Engine.phaseMove (cfg : Config) (t : UsTunables) (e : Bool) (u : Engine) : EngineMove :=
  match u.st with
  | .idle => .quiet u
  | .gap => u.gapMove cfg
  | .trig => u.trigMove e
  | .waitRise => u.riseMove cfg t e
  | .waitFall => u.fallMove cfg t e

/-- The overall limit is set and reached (44_ultrasound.md R272). -/
abbrev Engine.OverLimit (t : UsTunables) (u : Engine) : Prop :=
  t.overall ≠ 0 ∧ t.overall.toNat ≤ u.ocnt.toNat

/-- The whole tick (44_ultrasound.md R265). -/
def Engine.move (cfg : Config) (t : UsTunables) (e : Bool) (u : Engine) : EngineMove :=
  if u.tickCounted.OverLimit t then
    .drive false u.tickCounted (finishEngine cfg u.tickCounted)
  else u.tickCounted.phaseMove cfg t e

/-- A move as a run of the engine's tick in state `s`. -/
def EngineMove.toRun (s : State) : EngineMove → Run
  | .quiet u => ⟨{ s with us := u }, 0, none, 0⟩
  | .drive line before after =>
    (Run.leaf ⟨{ s with us := before }, 0, none, 0⟩ (.gpioWrite .trig line)).engine fun _ => after

/-- Changes of the engine's registers after a leaf operation start from the registers before it. -/
theorem Run.leaf_engine (s : State) (u : Engine) (op : LeafOp) (g : Engine → Engine) :
    (Run.leaf ⟨{ s with us := u }, 0, none, 0⟩ op).engine g =
      (Run.leaf ⟨{ s with us := u }, 0, none, 0⟩ op).engine fun _ => g u := by
  have kept := ({ s with us := u } : State).leaf_us op
  rcases Run.leaf_cases ⟨{ s with us := u }, 0, none, 0⟩ op with ⟨failed, _⟩ | ⟨_, _, e⟩ | ⟨_, _, e⟩
  · exact absurd rfl failed
  · rw [e, Run.engine_none, Run.engine_none, kept]
  · rw [e]; rfl

theorem Run.engine_engine (r : Run) (f g : Engine → Engine) :
    (r.engine f).engine g = r.engine fun u => g (f u) := by
  obtain ⟨s, k, f, v⟩ := r
  cases f <;> rfl

section toRun
variable (s : State) (u : Engine) (e : Bool)

theorem Engine.sampleEnds_toRun :
    ((Run.endSample ⟨{ s with us := u }, 0, none, 0⟩).engine fun u => { u with eprev := e }) =
      (u.sampleEnds s.cfg s.usTune e).toRun s := by
  rw [Run.endSample, Engine.sampleEnds]
  by_cases more : u.idx.toNat < u.req.toNat
  · rw [if_pos more, if_pos more]; rfl
  · rw [if_neg more, if_neg more, Run.finish, Run.engine_engine, Run.leaf_engine]; rfl

theorem Engine.gapMove_toRun :
    Run.engineGap ⟨{ s with us := u }, 0, none, 0⟩ = (u.gapMove s.cfg).toRun s := by
  rw [Run.engineGap, Engine.gapMove]
  by_cases runOut : u.ctr = 0
  · rw [if_pos runOut, if_pos runOut, Run.leaf_engine]; rfl
  · rw [if_neg runOut, if_neg runOut]; rfl

theorem Engine.trigMove_toRun :
    Run.engineTrig ⟨{ s with us := u }, 0, none, 0⟩ e = (u.trigMove e).toRun s := by
  rw [Run.engineTrig, Engine.trigMove, Run.engine_none]
  by_cases runOut : u.ctr - 1 = 0
  · rw [if_pos runOut, if_pos runOut, Run.leaf_engine]; rfl
  · rw [if_neg runOut, if_neg runOut]; rfl

theorem Engine.riseMove_toRun :
    Run.engineWaitRise ⟨{ s with us := u }, 0, none, 0⟩ e =
      (u.riseMove s.cfg s.usTune e).toRun s := by
  rw [Run.engineWaitRise, Engine.riseMove, Run.engine_none]
  by_cases edge : u.eprev = false ∧ e = true
  · rw [if_pos edge, if_pos edge]; rfl
  · rw [if_neg edge, if_neg edge]
    by_cases late : s.usTune.sampleTo.toNat ≤ (upSat u.scnt).toNat
    · rw [if_pos late, if_pos late]; exact Engine.sampleEnds_toRun s _ e
    · rw [if_neg late, if_neg late]; rfl

theorem Engine.fallMove_toRun :
    Run.engineWaitFall ⟨{ s with us := u }, 0, none, 0⟩ e =
      (u.fallMove s.cfg s.usTune e).toRun s := by
  rw [Run.engineWaitFall, Engine.fallMove, Run.engine_none]
  by_cases edge : u.eprev = true ∧ e = false
  · rw [if_pos edge, if_pos edge]; exact Engine.sampleEnds_toRun s _ e
  · rw [if_neg edge, if_neg edge]
    by_cases late : s.usTune.sampleTo.toNat ≤ (upSat u.scnt).toNat
    · rw [if_pos late, if_pos late]; exact Engine.sampleEnds_toRun s _ e
    · rw [if_neg late, if_neg late]; rfl

end toRun

/-- The tick of the engine with registers `u`, up to its first failing leaf operation, is the move
of `u`. -/
theorem Run.engineStep_with (s : State) (u : Engine) (e : Bool) :
    (Run.start { s with us := u }).engineStep e = (u.move s.cfg s.usTune e).toRun s := by
  rw [Run.engineStep, Engine.move, Run.start_eq, Run.engine_none]
  by_cases runOut : u.tickCounted.OverLimit s.usTune
  · rw [if_pos runOut]
    exact (if_pos runOut).trans (Run.leaf_engine s u.tickCounted _ _)
  · rw [if_neg runOut]
    refine (if_neg runOut).trans ?_
    obtain ⟨st, _⟩ := u
    cases st with
    | idle => rfl
    | gap => exact Engine.gapMove_toRun s _
    | trig => exact Engine.trigMove_toRun s _ e
    | waitRise => exact Engine.riseMove_toRun s _ e
    | waitFall => exact Engine.fallMove_toRun s _ e

theorem Run.engineStep_eq_move (s : State) (e : Bool) :
    (Run.start s).engineStep e = (s.us.move s.cfg s.usTune e).toRun s :=
  Run.engineStep_with s s.us e

/-! ### The tick by its move -/

/-- The state after a move made in `s`; a failed write of TRIG stops the engine
(60_exceptions.md R333, log 12). -/
def EngineMove.outcome (s : State) : EngineMove → State
  | .quiet u => { s with us := u }
  | .drive line before after =>
    if s.cfg.leafCanFail = true ∧ s.answerAt s.env.asked = .fail then
      (({ s with trig := line, us := before } : State).leavesMade 1).engineFailed
    else ({ s with trig := line, us := after } : State).leavesMade 1

theorem State.engineTick_eq_outcome {s : State} (running : s.us.st ≠ .idle) (e : Bool) :
    s.engineTick e = (s.us.move s.cfg s.usTune e).outcome s := by
  rw [State.engineTick, if_neg running, Run.engineStep_eq_move]
  cases s.us.move s.cfg s.usTune e with
  | quiet u => rfl
  | drive line before after =>
    by_cases fails : s.cfg.leafCanFail = true ∧ s.answerAt s.env.asked = .fail
    · obtain ⟨canFail, failed⟩ := fails
      have failure : ({ s with us := before } : State).leaf (.gpioWrite .trig line) =
          (({ s with trig := line, us := before } : State).leavesMade 1, .fail) := by
        simp only [State.leaf, State.leavesMade, canFail, if_true]
        exact congrArg (Prod.mk _) failed
      rw [EngineMove.outcome, if_pos ⟨canFail, failed⟩, EngineMove.toRun, Run.leaf_fail failure]
      rfl
    · have leavesOk : s.LeavesOk 1 := fun canFail k hk => by
        obtain rfl : k = 0 := by omega
        cases answer : s.answerAt (s.env.asked + 0) with
        | ok => rfl
        | fail => exact absurd ⟨canFail, answer⟩ fails
      rw [EngineMove.outcome, if_neg fails, EngineMove.toRun, Run.trig_engine_ok leavesOk]

section outcome
variable {s : State}

/-- The answer to the next leaf operation is not a failure. -/
theorem State.LeavesOk.not_fails (leavesOk : s.LeavesOk 1) :
    ¬ (s.cfg.leafCanFail = true ∧ s.answerAt s.env.asked = .fail) := by
  rintro ⟨canFail, failed⟩
  have ok : s.answerAt s.env.asked = .ok := leavesOk canFail 0 Nat.one_pos
  rw [ok] at failed
  cases failed

theorem finishEngine_eq_readFinished (cfg : Config) (u : Engine) :
    finishEngine cfg u = readFinished cfg u := by
  rw [finishEngine, readFinished]
  split <;> rfl

theorem Engine.sampleEnds_outcome (leavesOk : s.LeavesOk 1) (u : Engine) (e : Bool) :
    (u.sampleEnds s.cfg s.usTune e).outcome s = s.sampleOver { u with eprev := e } := by
  rw [Engine.sampleEnds, State.sampleOver]
  by_cases more : u.idx.toNat < u.req.toNat
  · rw [if_pos more, if_pos more]; rfl
  · rw [if_neg more, if_neg more, EngineMove.outcome, if_neg leavesOk.not_fails,
      finishEngine_eq_readFinished]
    rfl

/-- Below the overall limit the tick is that of the phase (44_ultrasound.md R265, R272). -/
theorem Engine.move_eq_phaseMove {cfg : Config} {t : UsTunables} {u : Engine}
    (below : t.overall = 0 ∨ (countUp u.ocnt).toNat < t.overall.toNat) (e : Bool) :
    u.move cfg t e = u.tickCounted.phaseMove cfg t e := by
  rw [Engine.move, if_neg]
  rintro ⟨limited, reached⟩
  rcases below with unlimited | below
  · exact limited unlimited
  · exact absurd below (Nat.not_lt.2 reached)

end outcome

/-- Settles O48: the tick is the WAIT_RISE move, edge first, then the time-out. -/
theorem waitRiseTick : Obligations.WaitRiseTick := by
  intro s e rising leavesOk below
  have running : s.us.st ≠ .idle := by rw [rising]; decide
  have tick : s.engineTick e = (s.us.tickCounted.riseMove s.cfg s.usTune e).outcome s := by
    rw [State.engineTick_eq_outcome running, Engine.move_eq_phaseMove below, Engine.phaseMove,
      show s.us.tickCounted.st = .waitRise from rising]
  refine ⟨fun (edge : s.us.tickCounted.eprev = false ∧ e = true) => ?_,
    fun (noEdge : ¬ (s.us.tickCounted.eprev = false ∧ e = true)) late => ?_,
    fun (noEdge : ¬ (s.us.tickCounted.eprev = false ∧ e = true)) early => ?_⟩
  · rw [tick, Engine.riseMove, if_pos edge]
    rfl
  · rw [tick, Engine.riseMove, if_neg noEdge]
    exact (congrArg _ (if_pos late)).trans (Engine.sampleEnds_outcome leavesOk _ e)
  · rw [tick, Engine.riseMove, if_neg noEdge]
    exact congrArg _ (if_neg (Nat.not_le.2 early))

/-- The sum after a completed sample: the corrected time added, saturating (44_ultrasound.md
R269). -/
theorem addSample_total_toNat (offset : W32) (u : Engine) :
    ((addSample offset u).total.toNat : Int) =
      min (u.total.toNat + max 0 ((u.stopw.toNat : Int) - offset.toNat)) (2 ^ 32 - 1) := by
  rw [addSample, sat32_toNat]
  omega

/-- Settles O49: the tick is the WAIT_FALL move, edge first, then the time-out. -/
theorem waitFallTick : Obligations.WaitFallTick := by
  intro s e falling leavesOk below
  have running : s.us.st ≠ .idle := by rw [falling]; decide
  have tick : s.engineTick e = (s.us.tickCounted.fallMove s.cfg s.usTune e).outcome s := by
    rw [State.engineTick_eq_outcome running, Engine.move_eq_phaseMove below, Engine.phaseMove,
      show s.us.tickCounted.st = .waitFall from falling]
  refine ⟨fun (edge : s.us.tickCounted.eprev = true ∧ e = false) => ?_,
    fun (noEdge : ¬ (s.us.tickCounted.eprev = true ∧ e = false)) late => ?_,
    fun (noEdge : ¬ (s.us.tickCounted.eprev = true ∧ e = false)) early => ?_⟩
  · refine ⟨_, addSample_total_toNat s.usTune.offset
      { s.us with scnt := upSat s.us.scnt, stopw := upSat s.us.stopw }, ?_⟩
    rw [tick, Engine.fallMove, if_pos edge, Engine.sampleEnds_outcome leavesOk]
    rfl
  · rw [tick, Engine.fallMove, if_neg noEdge]
    exact (congrArg _ (if_pos late)).trans (Engine.sampleEnds_outcome leavesOk _ e)
  · rw [tick, Engine.fallMove, if_neg noEdge]
    exact congrArg _ (if_neg (Nat.not_le.2 early))

/-! ### The leaf operation of the tick -/

/-- Without LEAF_CAN_FAIL a move is what it makes of the registers and the line. -/
theorem EngineMove.outcome_infallible {s : State} (infallible : s.cfg.leafCanFail = false)
    (m : EngineMove) : (m.outcome s).err = s.err ∧ (m.outcome s).env.asked = s.env.asked := by
  cases m with
  | quiet u => exact ⟨rfl, rfl⟩
  | drive line before after =>
    have noFail : ¬ (s.cfg.leafCanFail = true ∧ s.answerAt s.env.asked = .fail) := by
      simp [infallible]
    rw [EngineMove.outcome, if_neg noFail]
    simp [State.leavesMade, infallible]

theorem State.engineTick_infallible {s : State} (infallible : s.cfg.leafCanFail = false)
    (e : Bool) : (s.engineTick e).err = s.err ∧ (s.engineTick e).env.asked = s.env.asked := by
  by_cases idle : s.us.st = .idle
  · rw [(s.engineTick_frame e).2 idle]
    exact ⟨rfl, rfl⟩
  · rw [State.engineTick_eq_outcome idle]
    exact EngineMove.outcome_infallible infallible _

/-- Without LEAF_CAN_FAIL no agent records an error or asks for an answer. -/
theorem State.tickStep_infallible {s : State} (infallible : s.cfg.leafCanFail = false)
    (x : Sample) : (s.tickStep x).err = s.err ∧ (s.tickStep x).env.asked = s.env.asked := by
  have buttons := State.buttonTicks_frame s.advanceNow x
  have buttonsCfg : (s.advanceNow.buttonTicks x).cfg.leafCanFail = false := by
    rw [buttons]
    exact infallible
  obtain ⟨blinkErr, blinkEnv⟩ := (s.advanceNow.buttonTicks x).blinkTick_frame.2.2 buttonsCfg
  have before : (s.advanceNow.buttonTicks x).blinkTick.cfg.leafCanFail = false := by
    rw [(s.advanceNow.buttonTicks x).blinkTick_frame.1]
    exact buttonsCfg
  obtain ⟨err, asked⟩ := State.engineTick_infallible before x.echo
  rw [State.tickStep, err, asked, blinkErr, blinkEnv, buttons]
  exact ⟨rfl, rfl⟩

/-- Settles O30, agent by agent. -/
theorem tickChangesOnlyTheAgentsState : Obligations.TickChangesOnlyTheAgentsState := by
  intro s x t
  have frame : t = _ := s.tickStep_frame x
  obtain ⟨slots, masks⟩ := s.tickStep_subs x
  refine ⟨?_, ?_, ?_, ?_, ?_, ?_, ?_, ?_, fun a => ?_, fun a => ?_, ?_, ?_, ?_, slots, masks,
    fun disabled => s.tickStep_buttons_disabled x disabled,
    fun inactive => s.tickStep_no_blink x inactive,
    fun idle => s.tickStep_engine_idle x idle,
    fun infallible => State.tickStep_infallible infallible x⟩
  all_goals rw [frame]

/-- A running engine asks for at most one answer in a tick; a failure stops it and is recorded. -/
theorem EngineMove.outcome_leaf {s : State} (fallible : s.cfg.leafCanFail = true)
    (m : EngineMove) :
    ((m.outcome s).env.asked = s.env.asked ∧ (m.outcome s).err = s.err) ∨
    ((m.outcome s).env.asked = s.env.asked + 1 ∧
      (s.answerAt s.env.asked = .ok → (m.outcome s).err = s.err) ∧
      (s.answerAt s.env.asked = .fail →
        (m.outcome s).us.st = .idle ∧ (m.outcome s).trig = false ∧
        (m.outcome s).us.res = .transport ∧ (m.outcome s).us.dist = 0 ∧
        (m.outcome s).us.done = true ∧
        (m.outcome s).err = ⟨.transportFailure, s.cmdseq, 0, 2, true⟩)) := by
  cases m with
  | quiet u => exact .inl ⟨rfl, rfl⟩
  | drive line before after =>
    have asked (a b : State) (h : a.env = (b.leavesMade 1).env)
        (hb : b.env = s.env ∧ b.cfg = s.cfg) : a.env.asked = s.env.asked + 1 := by
      simp [h, State.leavesMade, hb, fallible]
    refine .inr ?_
    cases answer : s.answerAt s.env.asked with
    | ok =>
      have noFail : ¬ (s.cfg.leafCanFail = true ∧ s.answerAt s.env.asked = .fail) := by
        simp [answer]
      rw [EngineMove.outcome, if_neg noFail]
      exact ⟨asked _ { s with trig := line, us := after } rfl ⟨rfl, rfl⟩, fun _ => rfl, nofun⟩
    | fail =>
      rw [EngineMove.outcome, if_pos ⟨fallible, answer⟩]
      refine ⟨asked _ { s with trig := line, us := before } rfl ⟨rfl, rfl⟩, nofun, fun _ => ?_⟩
      refine ⟨rfl, rfl, rfl, rfl, rfl, ?_⟩
      rw [State.engineFailed, State.recordError]
      simp [State.leavesMade]

end Sys2Proof.Machine

/-! SUPPORT. The blink timer (41_button.md R185) and the LEDs it turns off at its end
(60_exceptions.md R333, log 12). Settles the statements O31 and O32. -/

namespace Sys2Proof.Machine

/-! ### One tick of the blink timer -/

/-- The record a failing leaf operation of a tick leaves (60_exceptions.md R333). -/
def State.tickFailure (s : State) (info : W32) : ErrorRecord :=
  ⟨.transportFailure, s.cmdseq, 0, info, true⟩

/-- One LED turned off: its duty is 0 whatever the answer is, and a failure is recorded with
info 1. -/
theorem State.blinkLedOff_eq (s : State) (b : Fin 4) : s.blinkLedOff b =
    { s.leavesMade 1 with
      ledDuty := s.ledDuty.set b 0,
      err := if s.cfg.leafCanFail = true ∧ s.answerAt s.env.asked = .fail then s.tickFailure 1
             else s.err } := by
  rw [State.blinkLedOff, State.leaf]
  by_cases fallible : s.cfg.leafCanFail = true
  · cases answer : s.answerAt s.env.asked with
    | ok => simp [fallible, State.leavesMade, State.drivePwm, State.countAsked]
    | fail =>
      simp [fallible, State.leavesMade, State.drivePwm, State.countAsked, State.recordError,
        State.tickFailure]
  · simp [fallible, State.leavesMade, State.drivePwm]

section blinkTick
variable {s : State} (active : s.blinkActive = true)
include active

theorem State.blinkTick_waits (left : s.blinkTimer ≠ 0) :
    s.blinkTick = { s with blinkTimer := s.blinkTimer - 1 } := by
  rw [State.blinkTick, if_pos active, if_neg left]

/-- At its end the timer turns the four LEDs off one after the other. -/
theorem State.blinkTick_over (runOut : s.blinkTimer = 0) : s.blinkTick =
    { (((s.blinkLedOff 0).blinkLedOff 1).blinkLedOff 2).blinkLedOff 3 with
      blinkActive := false } := by
  rw [State.blinkTick, if_pos active, if_pos runOut]
  rfl

theorem State.blinkTick_over_leds (runOut : s.blinkTimer = 0) :
    s.blinkTick.ledDuty = ⟨0, 0, 0, 0⟩ ∧ s.blinkTick.blinkActive = false ∧
      s.blinkTick.blinkTimer = 0 := by
  rw [State.blinkTick_over active runOut]
  simp only [State.blinkLedOff_eq]
  exact ⟨rfl, trivial, runOut⟩

end blinkTick

/-! ### A whole blink -/

/-- With a blink active a tick with time left keeps the LEDs and counts the timer down. -/
theorem State.tickStep_blink_waits {s : State} (active : s.blinkActive = true)
    (left : s.blinkTimer ≠ 0) (x : Sample) : (s.tickStep x).ledDuty = s.ledDuty ∧
      (s.tickStep x).blinkActive = true ∧ (s.tickStep x).blinkTimer = s.blinkTimer - 1 := by
  obtain ⟨leds, stillActive, timer⟩ := s.tickStep_blink x
  have buttons := State.buttonTicks_frame s.advanceNow x
  have kept : (s.advanceNow.buttonTicks x).blinkActive = true ∧
      (s.advanceNow.buttonTicks x).blinkTimer ≠ 0 := by
    rw [buttons]
    exact ⟨active, left⟩
  rw [leds, stillActive, timer, State.blinkTick_waits kept.1 kept.2, buttons]
  exact ⟨rfl, active, rfl⟩

/-- With a blink active a tick with no time left turns the LEDs off and ends the blink. -/
theorem State.tickStep_blink_over {s : State} (active : s.blinkActive = true)
    (runOut : s.blinkTimer = 0) (x : Sample) : (s.tickStep x).ledDuty = ⟨0, 0, 0, 0⟩ ∧
      (s.tickStep x).blinkActive = false ∧ (s.tickStep x).blinkTimer = 0 := by
  obtain ⟨leds, ended, timer⟩ := s.tickStep_blink x
  have kept : (s.advanceNow.buttonTicks x).blinkActive = true ∧
      (s.advanceNow.buttonTicks x).blinkTimer = 0 := by
    rw [State.buttonTicks_frame s.advanceNow x]
    exact ⟨active, runOut⟩
  rw [leds, ended, timer]
  exact State.blinkTick_over_leds kept.1 kept.2

/-- A blink that has time left for all the ticks goes on. -/
theorem State.afterTicks_blinking {s : State} (active : s.blinkActive = true)
    (samples : List Sample) (inTime : samples.length ≤ s.blinkTimer.toNat) :
    (s.afterTicks samples).ledDuty = s.ledDuty ∧ (s.afterTicks samples).blinkActive = true ∧
      (s.afterTicks samples).blinkTimer.toNat = s.blinkTimer.toNat - samples.length := by
  induction samples using List.reverseRecOn with
  | nil => exact ⟨rfl, active, rfl⟩
  | append_singleton samples x ih =>
    rw [List.length_append, List.length_singleton] at inTime ⊢
    obtain ⟨leds, stillActive, timer⟩ := ih (by omega)
    have left : (s.afterTicks samples).blinkTimer ≠ 0 := by
      intro runOut
      rw [runOut] at timer
      have : 0 = s.blinkTimer.toNat - samples.length := timer
      omega
    obtain ⟨leds', active', timer'⟩ := State.tickStep_blink_waits stillActive left x
    rw [State.afterTicks_concat, leds', active', timer']
    refine ⟨leds, rfl, ?_⟩
    rw [toNat_sub_one_of_succ (c := s.blinkTimer.toNat - (samples.length + 1)) (by omega)]

/-- Settles O31, by induction on the ticks. -/
theorem blinkEndsAfterItsInterval : Obligations.BlinkEndsAfterItsInterval := by
  intro s samples _ active t
  refine ⟨State.afterTicks_blinking active samples, fun atEnd => ?_⟩
  obtain rfl | ⟨samples, x, rfl⟩ := samples.eq_nil_or_concat'
  · cases atEnd
  · rw [List.length_append, List.length_singleton, Nat.add_right_cancel_iff] at atEnd
    obtain ⟨-, stillActive, timer⟩ := State.afterTicks_blinking active samples atEnd.le
    have runOut : (s.afterTicks samples).blinkTimer = 0 :=
      BitVec.eq_of_toNat_eq (by rw [timer, atEnd, Nat.sub_self]; rfl)
    rw [show t = _ from s.afterTicks_concat samples x]
    exact State.tickStep_blink_over stillActive runOut x

/-! ### Failing leaf operations of a tick -/

/-- The record after the four LED writes of the end of a blink: one failure is enough. -/
theorem State.blinkTick_over_record {s : State} (fallible : s.cfg.leafCanFail = true)
    (active : s.blinkActive = true) (runOut : s.blinkTimer = 0) :
    s.blinkTick.env.asked = s.env.asked + 4 ∧
    ((∃ k < 4, s.answerAt (s.env.asked + k) = .fail) → s.blinkTick.err = s.tickFailure 1) ∧
    ((¬ ∃ k < 4, s.answerAt (s.env.asked + k) = .fail) → s.blinkTick.err = s.err) := by
  rw [State.blinkTick_over active runOut]
  have answers (t : State) (h : t.env.answers = s.env.answers) (n : Nat) :
      t.answerAt n = s.answerAt n := by
    rw [State.answerAt, h]
    rfl
  have some_fails : (∃ k < 4, s.answerAt (s.env.asked + k) = .fail) ↔
      s.answerAt s.env.asked = .fail ∨ s.answerAt (s.env.asked + 1) = .fail ∨
        s.answerAt (s.env.asked + 2) = .fail ∨ s.answerAt (s.env.asked + 3) = .fail := by
    constructor
    · rintro ⟨k, hk, failed⟩
      match k with
      | 0 => exact .inl failed
      | 1 => exact .inr (.inl failed)
      | 2 => exact .inr (.inr (.inl failed))
      | 3 => exact .inr (.inr (.inr failed))
    · rintro (failed | failed | failed | failed)
      · exact ⟨0, by decide, failed⟩
      · exact ⟨1, by decide, failed⟩
      · exact ⟨2, by decide, failed⟩
      · exact ⟨3, by decide, failed⟩
  have record : (((((s.blinkLedOff 0).blinkLedOff 1).blinkLedOff 2).blinkLedOff 3).env.asked =
      s.env.asked + 4) ∧ ((((s.blinkLedOff 0).blinkLedOff 1).blinkLedOff 2).blinkLedOff 3).err =
      if s.answerAt (s.env.asked + 3) = .fail then s.tickFailure 1 else
      if s.answerAt (s.env.asked + 2) = .fail then s.tickFailure 1 else
      if s.answerAt (s.env.asked + 1) = .fail then s.tickFailure 1 else
      if s.answerAt s.env.asked = .fail then s.tickFailure 1 else s.err := by
    simp only [State.blinkLedOff_eq, State.leavesMade, State.tickFailure, fallible, if_true,
      true_and, Nat.add_assoc]
    rw [answers, answers, answers] <;> rfl
  rw [some_fails]
  refine ⟨record.1, fun failed => record.2.trans ?_, fun ok => record.2.trans ?_⟩
  · split_ifs <;> simp_all
  · push Not at ok
    obtain ⟨ok0, ok1, ok2, ok3⟩ := ok
    rw [if_neg ok3, if_neg ok2, if_neg ok1, if_neg ok0]

/-- Settles O32, the blink timer and the engine one after the other. -/
theorem tickLeafFailuresAreRecorded : Obligations.TickLeafFailuresAreRecorded := by
  intro s fallible
  refine ⟨fun active runOut => ?_, fun running e => ?_⟩
  · obtain ⟨leds, ended, -⟩ := State.blinkTick_over_leds active runOut
    obtain ⟨asked, someFailed, allOk⟩ := State.blinkTick_over_record fallible active runOut
    refine ⟨leds, ended, asked, fun ok => allOk ?_, someFailed⟩
    rintro ⟨k, hk, failed⟩
    rw [ok k hk] at failed
    cases failed
  · intro t
    rw [show t = _ from State.engineTick_eq_outcome running e]
    exact EngineMove.outcome_leaf fallible _

end Sys2Proof.Machine

/-! SUPPORT. A tick of one button channel (41_button.md R160 to R165) by what the debouncer makes of
it, alone and over several ticks, and its independence of the others. Settles the statements O25,
O26, O27, O28 and O29. -/

namespace Sys2Proof.Machine

/-! ### One tick of a channel -/

/-- The part of a tick after the window has aged, without an edge: a channel pressed but not yet
held counts towards the hold (41_button.md R164). -/
def holdOrKeep (t : ButtonTunables) (c : Channel) : Channel × List EventKind :=
  if c.level = false ∧ (c.gst = .pressed ∨ c.gst = .double) then holdChannel t c else (c, [])

theorem holdOrKeep_up (t : ButtonTunables) {c : Channel} (up : c.level = true) :
    holdOrKeep t c = (c, []) :=
  if_neg fun both => by rw [up] at both; cases both.1

/-- The ageing of a window: open while its timer has not run out (41_button.md R163). -/
theorem ageWindow_eq (c : Channel) : ageWindow c =
    { c with dparmed := c.dparmed && decide (c.dptimer ≠ 0),
             dptimer := if c.dparmed && decide (c.dptimer ≠ 0) then c.dptimer - 1
                        else c.dptimer } := by
  obtain ⟨_, _, _, _, _, _, opened, timer, _⟩ := c
  cases opened with
  | false => rfl
  | true =>
    by_cases runOut : timer = 0
    · subst runOut
      rfl
    · have left : ¬ timer = 0#32 := runOut
      simp [ageWindow, left]

section channelTick
variable (t : ButtonTunables) (now : W32) (r : Bool) (c : Channel)

/-- The raw level agrees with LEVEL: the count starts again (41_button.md R161). -/
theorem channelTick_agrees (agrees : r = c.level) :
    channelTick t now r c = holdOrKeep t (ageWindow { c with dbcnt := 0 }) := by
  rw [channelTick, debounce, if_pos agrees]
  rfl

/-- The raw level differs from LEVEL, not yet long enough (41_button.md R161). -/
theorem channelTick_counts (differs : r ≠ c.level)
    (early : c.dbcnt.toNat + 1 < t.debounce.toNat) :
    channelTick t now r c =
      holdOrKeep t (ageWindow { c with dbcnt := BitVec.ofNat 32 (c.dbcnt.toNat + 1) }) := by
  rw [channelTick, debounce, if_neg differs, if_neg (Nat.not_le.2 early)]
  rfl

/-- The debounced press (41_button.md R161, R162). -/
theorem channelTick_press (up : c.level = true) (late : t.debounce.toNat ≤ c.dbcnt.toNat + 1) :
    channelTick t now false c =
      pressChannel t now (ageWindow { c with level := false, dbcnt := 0 }) := by
  rw [channelTick, debounce, if_neg (by rw [up]; decide), if_pos late]
  rfl

/-- The debounced release (41_button.md R161, R165). -/
theorem channelTick_release (down : c.level = false)
    (late : t.debounce.toNat ≤ c.dbcnt.toNat + 1) :
    channelTick t now true c =
      (releaseChannel (ageWindow { c with level := true, dbcnt := 0 }), []) := by
  rw [channelTick, debounce, if_neg (by rw [down]; decide), if_pos late]
  rfl

/-- A tick of a channel is one of the four. -/
theorem channelTick_cases :
    (r = c.level ∧
      channelTick t now r c = holdOrKeep t (ageWindow { c with dbcnt := 0 })) ∨
    (r ≠ c.level ∧ c.dbcnt.toNat + 1 < t.debounce.toNat ∧ channelTick t now r c =
      holdOrKeep t (ageWindow { c with dbcnt := BitVec.ofNat 32 (c.dbcnt.toNat + 1) })) ∨
    (r = false ∧ c.level = true ∧ channelTick t now r c =
      pressChannel t now (ageWindow { c with level := false, dbcnt := 0 })) ∨
    (r = true ∧ c.level = false ∧ channelTick t now r c =
      (releaseChannel (ageWindow { c with level := true, dbcnt := 0 }), [])) := by
  by_cases agrees : r = c.level
  · exact .inl ⟨agrees, channelTick_agrees t now r c agrees⟩
  · rcases Nat.lt_or_ge (c.dbcnt.toNat + 1) t.debounce.toNat with early | late
    · exact .inr (.inl ⟨agrees, early, channelTick_counts t now r c agrees early⟩)
    · cases level : c.level with
      | true =>
        obtain rfl : r = false := by simpa [level] using agrees
        exact .inr (.inr (.inl ⟨rfl, rfl, channelTick_press t now c level late⟩))
      | false =>
        obtain rfl : r = true := by simpa [level] using agrees
        exact .inr (.inr (.inr ⟨rfl, rfl, channelTick_release t now c level late⟩))

end channelTick

/-! ### What the parts of a tick leave -/

theorem holdOrKeep_frame (t : ButtonTunables) (c : Channel) :
    (holdOrKeep t c).1.level = c.level ∧ (holdOrKeep t c).1.dbcnt = c.dbcnt ∧
      (holdOrKeep t c).1.dparmed = c.dparmed ∧ (holdOrKeep t c).1.dptimer = c.dptimer := by
  rw [holdOrKeep, holdChannel]
  split_ifs <;> exact ⟨rfl, rfl, rfl, rfl⟩

theorem ageWindow_frame (c : Channel) :
    (ageWindow c).level = c.level ∧ (ageWindow c).dbcnt = c.dbcnt := by
  rw [ageWindow_eq]
  exact ⟨rfl, rfl⟩

/-- The press part sets neither LEVEL nor the debounce count (41_button.md R162). -/
theorem pressChannel_frame (t : ButtonTunables) (now : W32) (c : Channel) :
    (pressChannel t now c).1.level = c.level ∧ (pressChannel t now c).1.dbcnt = c.dbcnt := by
  rw [pressChannel]
  split_ifs <;> exact ⟨rfl, rfl⟩

/-- The release with what it makes of a hold (41_button.md R165, log 9). -/
theorem releaseChannel_eq (c : Channel) : releaseChannel c =
    { c with gst := .idle, holdcnt := 0,
             holdsub := if c.gst = .hold then .completed else c.holdsub,
             holding := if c.gst = .hold then false else c.holding } := by
  rw [releaseChannel]
  split_ifs <;> rfl

theorem releaseChannel_frame (c : Channel) :
    (releaseChannel c).level = c.level ∧ (releaseChannel c).dbcnt = c.dbcnt := by
  rw [releaseChannel_eq]
  exact ⟨rfl, rfl⟩

/-! ### One button over several ticks -/

section afterTicks
variable (s : State)

theorem State.tickStep_enabled (x : Sample) :
    (s.tickStep x).btnEn = s.btnEn ∧ (s.tickStep x).btnTune = s.btnTune := by
  rw [s.tickStep_frame x]
  exact ⟨rfl, rfl⟩

theorem State.afterTicks_enabled (samples : List Sample) :
    (s.afterTicks samples).btnEn = s.btnEn ∧ (s.afterTicks samples).btnTune = s.btnTune := by
  induction samples using List.reverseRecOn with
  | nil => exact ⟨rfl, rfl⟩
  | append_singleton samples x ih =>
    rw [State.afterTicks_concat]
    obtain ⟨enabled, tune⟩ := (s.afterTicks samples).tickStep_enabled x
    exact ⟨enabled.trans ih.1, tune.trans ih.2⟩

variable {s} (enabled : s.btnEn = true) (b : Fin 4)
include enabled

/-- A tick of an enabled button is a tick of its channel. -/
theorem State.tickStep_channel (x : Sample) : (s.tickStep x).channels.get b =
    (channelTick s.btnTune (s.now + 1) (x.btn.get b) (s.channels.get b)).1 := by
  have button := s.tickStep_button x b
  rw [if_pos enabled] at button
  exact congrArg Prod.fst button

theorem State.tickStep_counts (x : Sample) : (s.tickStep x).evcnt.get b =
    (channelTick s.btnTune (s.now + 1) (x.btn.get b) (s.channels.get b)).2.foldl
      EventCounts.bump (s.evcnt.get b) := by
  have button := s.tickStep_button x b
  rw [if_pos enabled] at button
  exact congrArg Prod.snd button

theorem State.afterTicks_channel (samples : List Sample) (x : Sample) :
    ∃ now, ((s.afterTicks (samples ++ [x])).channels.get b =
      (channelTick s.btnTune now (x.btn.get b) ((s.afterTicks samples).channels.get b)).1) ∧
    (s.afterTicks (samples ++ [x])).evcnt.get b =
      (channelTick s.btnTune now (x.btn.get b) ((s.afterTicks samples).channels.get b)).2.foldl
        EventCounts.bump ((s.afterTicks samples).evcnt.get b) := by
  obtain ⟨stillEnabled, tune⟩ := s.afterTicks_enabled samples
  refine ⟨(s.afterTicks samples).now + 1, ?_⟩
  rw [State.afterTicks_concat, State.tickStep_channel (stillEnabled.trans enabled),
    State.tickStep_counts (stillEnabled.trans enabled), tune]
  exact ⟨rfl, rfl⟩

end afterTicks

/-! ### The debouncer -/

section debouncer
variable {t : ButtonTunables} {now : W32} {r : Bool} {c : Channel}

theorem channelTick_agrees_level (agrees : r = c.level) :
    (channelTick t now r c).1.level = c.level ∧ (channelTick t now r c).1.dbcnt = 0 := by
  rw [channelTick_agrees t now r c agrees, (holdOrKeep_frame _ _).1, (holdOrKeep_frame _ _).2.1]
  exact ageWindow_frame _

theorem channelTick_counts_level (differs : r ≠ c.level)
    (early : c.dbcnt.toNat + 1 < t.debounce.toNat) :
    (channelTick t now r c).1.level = c.level ∧
      (channelTick t now r c).1.dbcnt.toNat = c.dbcnt.toNat + 1 := by
  have inRange : c.dbcnt.toNat + 1 < 2 ^ 32 := early.trans t.debounce.isLt
  rw [channelTick_counts t now r c differs early, (holdOrKeep_frame _ _).1,
    (holdOrKeep_frame _ _).2.1, (ageWindow_frame _).1, (ageWindow_frame _).2]
  exact ⟨rfl, Nat.mod_eq_of_lt inRange⟩

theorem channelTick_edge_level (differs : r ≠ c.level)
    (late : t.debounce.toNat ≤ c.dbcnt.toNat + 1) :
    (channelTick t now r c).1.level = !c.level ∧ (channelTick t now r c).1.dbcnt = 0 := by
  cases level : c.level with
  | true =>
    obtain rfl : r = false := by simpa [level] using differs
    rw [channelTick_press t now c level late, (pressChannel_frame _ _ _).1,
      (pressChannel_frame _ _ _).2]
    exact ageWindow_frame _
  | false =>
    obtain rfl : r = true := by simpa [level] using differs
    rw [channelTick_release t now c level late, (releaseChannel_frame _).1,
      (releaseChannel_frame _).2]
    exact ageWindow_frame _

end debouncer

/-- Fewer disagreeing ticks than the bound are counted and leave the level (41_button.md R161). -/
theorem State.afterTicks_debouncing {s : State} (enabled : s.btnEn = true) {b : Fin 4}
    (start : (s.channels.get b).dbcnt = 0) {samples : List Sample}
    (differ : ∀ x ∈ samples, x.btn.get b ≠ (s.channels.get b).level)
    (early : samples.length < max s.btnTune.debounce.toNat 1) :
    ((s.afterTicks samples).channels.get b).level = (s.channels.get b).level ∧
      ((s.afterTicks samples).channels.get b).dbcnt.toNat = samples.length := by
  induction samples using List.reverseRecOn with
  | nil => exact ⟨rfl, by rw [State.afterTicks, List.foldl_nil, start]; rfl⟩
  | append_singleton samples x ih =>
    rw [List.length_append, List.length_singleton] at early ⊢
    obtain ⟨level, count⟩ := ih (fun y hy => differ y (List.mem_append_left _ hy)) (by omega)
    obtain ⟨now, channel, -⟩ := State.afterTicks_channel enabled b samples x
    have differs := differ x (List.mem_append_right _ (List.mem_singleton_self x))
    obtain ⟨level', count'⟩ := channelTick_counts_level (now := now) (level.symm ▸ differs)
      (t := s.btnTune) (by omega)
    rw [channel, level', count', count]
    exact ⟨level, rfl⟩

/-- Settles O25, by induction on the ticks before the last. -/
theorem debounceCountsConsecutiveTicks : Obligations.DebounceCountsConsecutiveTicks := by
  intro s b enabled c
  refine ⟨fun samples differ start => ⟨State.afterTicks_debouncing enabled start differ,
    fun atBound => ?_⟩, fun x agrees => ?_⟩
  · obtain rfl | ⟨samples, x, rfl⟩ := samples.eq_nil_or_concat'
    · exact absurd atBound (by simp; omega)
    · rw [List.length_append, List.length_singleton] at atBound
      obtain ⟨level, count⟩ := State.afterTicks_debouncing enabled start
        (fun y hy => differ y (List.mem_append_left _ hy)) (by omega)
      obtain ⟨now, channel, -⟩ := State.afterTicks_channel enabled b samples x
      have differs := differ x (List.mem_append_right _ (List.mem_singleton_self x))
      obtain ⟨level', count'⟩ := channelTick_edge_level (now := now) (level.symm ▸ differs)
        (t := s.btnTune) (by omega)
      rw [channel, level', count']
      exact ⟨congrArg (! ·) level, rfl⟩
  · rw [State.tickStep_channel enabled]
    exact channelTick_agrees_level agrees

/-! ### The edges -/

/-- Settles O26: the press and the release of `channelTick_press` and `channelTick_release`, with
the window aged. -/
theorem edgesOfAButtonChannel : Obligations.EdgesOfAButtonChannel := by
  intro s b enabled c still left withNew late
  refine ⟨fun up opened => ?_, fun up closed => ?_, fun down => ?_⟩
  · rw [State.buttonTick, if_pos enabled, channelTick_press _ _ _ up late, ageWindow_eq,
      pressChannel, if_pos opened]
    rfl
  · rw [State.buttonTick, if_pos enabled, channelTick_press _ _ _ up late, ageWindow_eq,
      pressChannel, if_neg (show ¬ still = true by rw [closed]; decide)]
    rfl
  · rw [State.buttonTick, if_pos enabled, channelTick_release _ _ _ down late, ageWindow_eq,
      releaseChannel_eq]
    rfl

/-! ### The double-press window -/

/-- Without an edge a tick ages the window, and an up button raises nothing. -/
theorem channelTick_agrees_window {t : ButtonTunables} {now : W32} {r : Bool} {c : Channel}
    (agrees : r = c.level) :
    (channelTick t now r c).1.dparmed = (c.dparmed && decide (c.dptimer ≠ 0)) ∧
    (channelTick t now r c).1.dptimer =
      (if c.dparmed && decide (c.dptimer ≠ 0) then c.dptimer - 1 else c.dptimer) ∧
    (c.level = true → (channelTick t now r c).2 = []) := by
  rw [channelTick_agrees t now r c agrees, (holdOrKeep_frame _ _).2.2.1,
    (holdOrKeep_frame _ _).2.2.2, ageWindow_eq]
  refine ⟨rfl, rfl, fun up => ?_⟩
  rw [holdOrKeep_up]
  exact up

/-- One more ageing of a window that is open for `total` ticks and has aged `n` times. -/
theorem window_ages {c : Channel} {n total : Nat} (stillOpen : c.dparmed = true ↔ n ≤ total)
    (timer : n ≤ total → c.dptimer.toNat = total - n) :
    (c.dparmed && decide (c.dptimer ≠ 0)) = true ↔ n + 1 ≤ total := by
  have timeLeft (inTime : n ≤ total) : c.dptimer ≠ 0 ↔ n + 1 ≤ total := by
    have zero : (0 : W32).toNat = 0 := rfl
    rw [ne_eq, ← BitVec.toNat_inj, timer inTime, zero]
    omega
  rw [Bool.and_eq_true, decide_eq_true_eq, stillOpen]
  exact ⟨fun both => (timeLeft both.1).1 both.2,
    fun inTime => ⟨by omega, (timeLeft (by omega)).2 inTime⟩⟩

/-- After `k` ticks without an edge the window is open exactly when its timer was `k` or more, and
the timer has gone down by `k` (41_button.md R163). -/
theorem State.afterTicks_window {s : State} (enabled : s.btnEn = true) {b : Fin 4}
    (opened : (s.channels.get b).dparmed = true) {samples : List Sample}
    (agree : ∀ x ∈ samples, x.btn.get b = (s.channels.get b).level) :
    ((s.afterTicks samples).channels.get b).level = (s.channels.get b).level ∧
    (((s.afterTicks samples).channels.get b).dparmed = true ↔
      samples.length ≤ (s.channels.get b).dptimer.toNat) ∧
    (samples.length ≤ (s.channels.get b).dptimer.toNat →
      ((s.afterTicks samples).channels.get b).dptimer.toNat =
        (s.channels.get b).dptimer.toNat - samples.length) ∧
    ((s.channels.get b).level = true → (s.afterTicks samples).evcnt.get b = s.evcnt.get b) := by
  induction samples using List.reverseRecOn with
  | nil => exact ⟨rfl, by simp [State.afterTicks, opened], fun _ => rfl, fun _ => rfl⟩
  | append_singleton samples x ih =>
    obtain ⟨level, stillOpen, timer, counts⟩ :=
      ih fun y hy => agree y (List.mem_append_left _ hy)
    obtain ⟨now, channel, evcnt⟩ := State.afterTicks_channel enabled b samples x
    have agrees : x.btn.get b = ((s.afterTicks samples).channels.get b).level :=
      (agree x (List.mem_append_right _ (List.mem_singleton_self x))).trans level.symm
    obtain ⟨armed', timer', quiet⟩ :=
      channelTick_agrees_window (t := s.btnTune) (now := now) agrees
    rw [channel, evcnt, (channelTick_agrees_level agrees).1, armed', timer', List.length_append,
      List.length_singleton]
    have openNow := window_ages stillOpen timer
    refine ⟨level, openNow, fun inTime => ?_, fun up => ?_⟩
    · rw [if_pos (openNow.2 inTime)]
      exact toNat_sub_one_of_succ (by rw [timer (by omega)]; omega)
    · rw [quiet (level.trans up), List.foldl_nil, counts up]

/-- Settles O27: the window is `State.afterTicks_window`, and the press of the next tick looks at
it after one more ageing. -/
theorem doublePressWindowIsInclusive : Obligations.DoublePressWindowIsInclusive := by
  intro s b samples enabled c opened agree
  obtain ⟨level, stillOpen, timer, counts⟩ := State.afterTicks_window enabled opened agree
  refine ⟨stillOpen, fun x up fast pressed => ?_⟩
  obtain ⟨now, channel, evcnt⟩ := State.afterTicks_channel enabled b samples x
  have late : s.btnTune.debounce.toNat ≤
      ((s.afterTicks samples).channels.get b).dbcnt.toNat + 1 := by omega
  have openNow := window_ages stillOpen timer
  rw [pressed, channelTick_press _ _ _ (level.trans up) late, ageWindow_eq, counts up]
    at evcnt
  rw [pressed, channelTick_press _ _ _ (level.trans up) late, ageWindow_eq] at channel
  intro t
  rw [show t.evcnt.get b = _ from evcnt, show t.channels.get b = _ from channel, pressChannel]
  rcases Nat.lt_or_ge (c.dptimer.toNat) (samples.length + 1) with closed | inTime
  · rw [if_neg fun opened => absurd (openNow.1 opened) (Nat.not_le.2 closed)]
    exact ⟨rfl, fun inTime => absurd closed (Nat.not_lt.2 inTime), fun _ => ⟨rfl, rfl⟩⟩
  · rw [if_pos (openNow.2 inTime)]
    exact ⟨rfl, fun _ => ⟨rfl, rfl⟩, fun closed => absurd closed (Nat.not_lt.2 inTime)⟩

/-! ### The hold -/

/-- A tick of a button kept down counts towards the hold as long as it is not held. -/
theorem channelTick_down {t : ButtonTunables} {now : W32} {c : Channel} (down : c.level = false) :
    channelTick t now false c = holdOrKeep t (ageWindow { c with dbcnt := 0 }) :=
  channelTick_agrees t now false c down.symm

/-- A held button kept down stays as it is and raises nothing (41_button.md R164). -/
theorem channelTick_held {t : ButtonTunables} {now : W32} {c : Channel} (down : c.level = false)
    (held : c.gst = .hold) : (channelTick t now false c).2 = [] ∧
      (channelTick t now false c).1.gst = .hold ∧
      (channelTick t now false c).1.holdsub = c.holdsub ∧
      (channelTick t now false c).1.holding = c.holding := by
  rw [channelTick_down down, holdOrKeep, ageWindow_eq, if_neg (by simp [held])]
  exact ⟨rfl, held, rfl, rfl⟩

/-- A pressed button kept down, before the bound (41_button.md R164). -/
theorem channelTick_holding {t : ButtonTunables} {now : W32} {c : Channel}
    (down : c.level = false) (pressed : c.gst = .pressed ∨ c.gst = .double)
    (early : c.holdcnt.toNat + 1 < t.holdmin.toNat) : (channelTick t now false c).2 = [] ∧
      (channelTick t now false c).1.gst = c.gst ∧
      (channelTick t now false c).1.holdcnt.toNat = c.holdcnt.toNat + 1 ∧
      (channelTick t now false c).1.holding = c.holding := by
  have inRange : c.holdcnt.toNat + 1 < 2 ^ 32 := early.trans t.holdmin.isLt
  rw [channelTick_down down, holdOrKeep, ageWindow_eq, if_pos ⟨down, pressed⟩, holdChannel,
    if_neg (Nat.not_le.2 early)]
  exact ⟨rfl, rfl, Nat.mod_eq_of_lt inRange, rfl⟩

/-- A pressed button kept down, at the bound (41_button.md R164). -/
theorem channelTick_holds {t : ButtonTunables} {now : W32} {c : Channel}
    (down : c.level = false) (pressed : c.gst = .pressed ∨ c.gst = .double)
    (late : t.holdmin.toNat ≤ c.holdcnt.toNat + 1) : (channelTick t now false c).2 = [.hold] ∧
      (channelTick t now false c).1.gst = .hold ∧
      (channelTick t now false c).1.holdsub = .started ∧
      (channelTick t now false c).1.holding = true := by
  rw [channelTick_down down, holdOrKeep, ageWindow_eq, if_pos ⟨down, pressed⟩, holdChannel,
    if_pos late]
  exact ⟨rfl, rfl, rfl, rfl⟩

/-- A button kept down stays down. -/
theorem State.afterTicks_down {s : State} (enabled : s.btnEn = true) {b : Fin 4}
    (down : (s.channels.get b).level = false) {samples : List Sample}
    (low : ∀ x ∈ samples, x.btn.get b = false) :
    ((s.afterTicks samples).channels.get b).level = false := by
  induction samples using List.reverseRecOn with
  | nil => exact down
  | append_singleton samples x ih =>
    have before := ih fun y hy => low y (List.mem_append_left _ hy)
    obtain ⟨now, channel, -⟩ := State.afterTicks_channel enabled b samples x
    rw [channel, low x (List.mem_append_right _ (List.mem_singleton_self x)),
      (channelTick_agrees_level before.symm).1, before]

section hold
variable {s : State} (enabled : s.btnEn = true) {b : Fin 4}
  (down : (s.channels.get b).level = false)
  (pressed : (s.channels.get b).gst = .pressed ∨ (s.channels.get b).gst = .double)
  (start : (s.channels.get b).holdcnt = 0)
include enabled down pressed start

/-- Before the bound the ticks are counted and nothing is raised. -/
theorem State.afterTicks_holding {samples : List Sample}
    (low : ∀ x ∈ samples, x.btn.get b = false)
    (early : samples.length < max s.btnTune.holdmin.toNat 1) :
    ((s.afterTicks samples).channels.get b).gst = (s.channels.get b).gst ∧
    ((s.afterTicks samples).channels.get b).holdcnt.toNat = samples.length ∧
    ((s.afterTicks samples).channels.get b).holding = (s.channels.get b).holding ∧
    (s.afterTicks samples).evcnt.get b = s.evcnt.get b := by
  induction samples using List.reverseRecOn with
  | nil => exact ⟨rfl, by rw [State.afterTicks, List.foldl_nil, start]; rfl, rfl, rfl⟩
  | append_singleton samples x ih =>
    rw [List.length_append, List.length_singleton] at early ⊢
    have lowBefore := fun y hy => low y (List.mem_append_left _ hy)
    obtain ⟨gst, count, holding, evcnt⟩ := ih lowBefore (by omega)
    obtain ⟨now, channel', evcnt'⟩ := State.afterTicks_channel enabled b samples x
    have stillDown := State.afterTicks_down enabled down lowBefore
    obtain ⟨quiet, gst', count', holding'⟩ := channelTick_holding (now := now) stillDown
      (gst.symm ▸ pressed) (t := s.btnTune) (by omega)
    rw [channel', evcnt', low x (List.mem_append_right _ (List.mem_singleton_self x)), quiet, gst',
      count', holding', count]
    exact ⟨gst, rfl, holding, evcnt⟩

/-- From the bound on the button is held and HOLD has been raised once. -/
theorem State.afterTicks_held {samples : List Sample}
    (low : ∀ x ∈ samples, x.btn.get b = false)
    (late : max s.btnTune.holdmin.toNat 1 ≤ samples.length) :
    ((s.afterTicks samples).channels.get b).gst = .hold ∧
    ((s.afterTicks samples).channels.get b).holdsub = .started ∧
    ((s.afterTicks samples).channels.get b).holding = true ∧
    (s.afterTicks samples).evcnt.get b =
      { s.evcnt.get b with hold := (s.evcnt.get b).hold + 1 } := by
  induction samples using List.reverseRecOn with
  | nil => exact absurd late (by simp)
  | append_singleton samples x ih =>
    rw [List.length_append, List.length_singleton] at late
    have lowBefore := fun y hy => low y (List.mem_append_left _ hy)
    have lowNow := low x (List.mem_append_right _ (List.mem_singleton_self x))
    have stillDown := State.afterTicks_down enabled down lowBefore
    obtain ⟨now, channel', evcnt'⟩ := State.afterTicks_channel enabled b samples x
    rcases Nat.lt_or_ge samples.length (max s.btnTune.holdmin.toNat 1) with early | wasLate
    · obtain ⟨gst, count, -, evcnt⟩ :=
        State.afterTicks_holding enabled down pressed start lowBefore early
      obtain ⟨event, gst', holdsub', holding'⟩ := channelTick_holds (now := now) stillDown
        (gst.symm ▸ pressed) (t := s.btnTune) (by omega)
      rw [channel', evcnt', lowNow, event, gst', holdsub', holding', evcnt]
      exact ⟨rfl, rfl, rfl, rfl⟩
    · obtain ⟨gst, holdsub, holding, evcnt⟩ := ih lowBefore wasLate
      obtain ⟨quiet, gst', holdsub', holding'⟩ :=
        channelTick_held (t := s.btnTune) (now := now) stillDown gst
      rw [channel', evcnt', lowNow, quiet, gst', holdsub', holding']
      exact ⟨rfl, holdsub, holding, evcnt⟩

end hold

/-- Settles O28: before the bound and from the bound on. -/
theorem holdStartsOnceAtTheBound : Obligations.HoldStartsOnceAtTheBound := by
  intro s b samples enabled c n t down pressed start low
  exact ⟨State.afterTicks_holding enabled down pressed start low,
    State.afterTicks_held enabled down pressed start low⟩

/-! ### Independence -/

/-- Settles O29: a channel with its counts, and a pending bit, after a tick are functions of the
parts the two states agree on. -/
theorem buttonChannelsAreIndependent : Obligations.ButtonChannelsAreIndependent := by
  intro s s' x x' b enabled tune now channel level counts
  have button : (s.tickStep x).button b = (s'.tickStep x').button b := by
    rw [State.tickStep_button, State.tickStep_button, enabled, tune, now, level]
    simp only [State.button, channel, counts]
  refine ⟨congrArg Prod.fst button, congrArg Prod.snd button, fun i k hk mask pend => ?_⟩
  rw [State.tickStep_pend _ _ _ _ hk, State.tickStep_pend _ _ _ _ hk, enabled, tune, now, channel,
    level, mask, pend]

end Sys2Proof.Machine

/-! SUPPORT. The invariant of the machine: each part of it kept by what may change that part. The
button channels and their slots, the blink timer, the ultrasound engine (through its move), every
write of a command, and the records of errors. -/

namespace Sys2Proof.Machine

/-! ### The channels -/

/-- A tick of an enabled channel keeps what holds of it (41_button.md R160, log 10). -/
theorem Channel.Inv.tick {c : Channel} (inv : c.Inv true) (t : ButtonTunables) (now : W32)
    (r : Bool) : (channelTick t now r c).1.Inv true := by
  obtain ⟨idle, holding, started, count, holdCount, -⟩ := inv
  have hold (d : Channel) (same : d.level = c.level ∧ d.gst = c.gst ∧ d.holdsub = c.holdsub ∧
      d.holding = c.holding ∧ d.holdcnt = c.holdcnt) (hd : d.dbcnt.toNat < u32Max) :
      (holdOrKeep t d).1.Inv true := by
    obtain ⟨sl, sg, ss, sh, sc⟩ := same
    rw [holdOrKeep, sl, sg]
    by_cases pressed : c.level = false ∧ (c.gst = .pressed ∨ c.gst = .double)
    · rw [if_pos pressed, holdChannel]
      obtain ⟨down, pressed⟩ := pressed
      by_cases late : d.holdcnt.toNat + 1 ≥ t.holdmin.toNat
      · rw [if_pos late]
        exact ⟨by simp [sl, down], by simp, by simp, hd, by simp, nofun⟩
      · have := t.holdmin.isLt
        rw [if_neg late]
        refine ⟨by rw [sg, sl]; exact idle, by rw [sh, ss]; exact holding,
          by rw [sg, ss]; exact started, hd, fun _ => ?_, nofun⟩
        rw [BitVec.toNat_ofNat, Nat.mod_eq_of_lt (by omega), u32Max]
        omega
    · rw [if_neg pressed]
      exact ⟨by rw [sg, sl]; exact idle, by rw [sh, ss]; exact holding,
        by rw [sg, ss]; exact started, hd, by rw [sg, sc]; exact holdCount, nofun⟩
  rcases channelTick_cases t now r c with
    ⟨-, tick⟩ | ⟨-, early, tick⟩ | ⟨-, up, tick⟩ | ⟨-, down, tick⟩
  · rw [tick, ageWindow_eq]
    exact hold _ ⟨rfl, rfl, rfl, rfl, rfl⟩ (show 0 < u32Max by decide)
  · have := t.debounce.isLt
    rw [tick, ageWindow_eq]
    refine hold _ ⟨rfl, rfl, rfl, rfl, rfl⟩ ?_
    rw [BitVec.toNat_ofNat, Nat.mod_eq_of_lt (by omega), u32Max]
    omega
  · have notHeld : c.holdsub ≠ .started := fun h => by
      have held := started h
      rw [idle.2 up] at held
      cases held
    have notHolding : c.holding = false :=
      Bool.eq_false_of_not_eq_true fun h => notHeld (holding.1 h)
    rw [tick, ageWindow_eq, pressChannel]
    split <;> refine ⟨?_, ?_, ?_, ?_, ?_, nofun⟩ <;> simp [notHolding, u32Max]
  · rw [tick, ageWindow_eq, releaseChannel_eq]
    by_cases held : c.gst = .hold
    · simp [Channel.Inv, held, u32Max]
    · have notHeld : c.holdsub ≠ .started := fun h => held (started h)
      have notHolding : c.holding = false :=
        Bool.eq_false_of_not_eq_true fun h => notHeld (holding.1 h)
      simp [Channel.Inv, notHeld, notHolding, held, u32Max]

/-- Teardown leaves an idle channel (41_button.md R166, log 9). -/
theorem Channel.Inv.teardown {c : Channel} {enabled : Bool} (inv : c.Inv enabled) :
    (teardownChannel c).Inv false := by
  obtain ⟨-, holding, -⟩ := inv
  rw [teardownChannel]
  by_cases started : c.holdsub = .started
  · simp [Channel.Inv, started, u32Max]
  · simp [Channel.Inv, started, holding, u32Max]

/-- Enabling keeps what holds of a channel, as does disabling what is disabled. -/
theorem Channel.Inv.enable {c : Channel} {enabled enabled' : Bool} (inv : c.Inv enabled)
    (h : enabled' = false → enabled = false) : c.Inv enabled' := by
  obtain ⟨idle, holding, started, count, holdCount, torn⟩ := inv
  exact ⟨idle, holding, started, count, holdCount, fun h' => torn (h h')⟩

/-! ### The slots -/

theorem Subscriber.inv_iff (u : Subscriber) :
    u.Inv ↔ ∀ j, u.pend.getLsbD j = true → u.mask.getLsbD j = true := by
  rw [Subscriber.Inv]
  constructor
  · intro none j pending
    have bit := congrArg (fun v => BitVec.getLsbD v j) none
    have inRange : j < 12 := BitVec.lt_of_getLsbD pending
    simpa [pending, inRange] using bit
  · intro subscribed
    ext j hj
    have := subscribed j
    simp only [BitVec.getLsbD_eq_getElem hj] at this
    simp
    exact this

theorem Subscriber.Inv.notify {u : Subscriber} (inv : u.Inv) (e : Nat) : (u.notify e).Inv := by
  rw [Subscriber.inv_iff] at inv ⊢
  intro j pending
  rw [Subscriber.notify_pend_getLsbD, Bool.or_eq_true, Bool.and_eq_true, decide_eq_true_eq]
    at pending
  rw [Subscriber.notify_mask]
  rcases pending with pending | ⟨rfl, subscribed⟩
  · exact inv j pending
  · exact subscribed

/-- A changed slot keeps what holds of every slot if the change does. -/
theorem State.modifySlot_inv {s : State} (inv : ∀ i, (s.slot i).Inv) (n : Nat)
    {f : Subscriber → Subscriber} (hf : ∀ u : Subscriber, u.Inv → (f u).Inv) (i : Nat) :
    ((s.modifySlot n f).slot i).Inv := by
  rcases Nat.lt_or_ge n s.subs.length with there | absent
  · rw [State.modifySlot_slot s there]
    split
    · exact hf _ (inv n)
    · exact inv i
  · have same : s.modifySlot n f = s := by
      rw [State.modifySlot, List.set_eq_of_length_le absent]
    rw [same]
    exact inv i

/-! ### The engine -/

section engine
variable {cfg : Config} {t : UsTunables} {u : Engine}

theorem upSat_toNat (v : W32) : (upSat v).toNat = min (v.toNat + 1) (2 ^ 32 - 1) := sat32_toNat _

/-- What holds of an idle engine. -/
theorem Engine.Inv.of_idle (idle : u.st = .idle) (count : u.cnt.toNat ≤ u.idx.toNat)
    (index : u.idx.toNat ≤ u.req.toNat) (result : u.done = true → u.res ≠ .none)
    (dist : u.res ≠ .ok → u.dist = 0) : u.Inv cfg t := by
  refine ⟨count, index, ?_, ?_, ?_, ?_, ?_, fun running => absurd idle running, result, dist⟩ <;>
    simp [idle]

/-- The move keeps what holds of the engine and of the trigger line, whatever the answer to its
write: TRIG is high only in TRIG, and what a failed write leaves can be stopped. -/
def EngineMove.Keeps (cfg : Config) (t : UsTunables) (trig : Bool) : EngineMove → Prop
  | .quiet u => u.Inv cfg t ∧ (trig = true → u.st = .trig) ∧ u.res ≠ .transport
  | .drive line before after =>
    before.cnt.toNat ≤ before.idx.toNat ∧ before.idx.toNat ≤ before.req.toNat ∧
    after.Inv cfg t ∧ (line = true → after.st = .trig) ∧ after.res ≠ .transport

/-- A finished read (44_ultrasound.md R271). -/
theorem finishEngine_keeps (trig : Bool) {before : Engine}
    (count : before.cnt.toNat ≤ before.idx.toNat) (index : before.idx.toNat ≤ before.req.toNat)
    (e : Bool) :
    (EngineMove.drive false before { finishEngine cfg before with eprev := e }).Keeps cfg t
      trig := by
  rw [finishEngine]
  refine ⟨count, index, ?_⟩
  split
  · exact ⟨.of_idle rfl count index (by simp) (by simp), nofun, by simp⟩
  · exact ⟨.of_idle rfl count index (by simp) (by simp), nofun, by simp⟩

/-- The end of a sample (44_ultrasound.md R270). -/
theorem Engine.sampleEnds_keeps (quiet : u.done = false ∧ u.res = .none) (dist : u.dist = 0)
    (count : u.cnt.toNat ≤ u.idx.toNat) (index : u.idx.toNat ≤ u.req.toNat) (e : Bool) :
    (u.sampleEnds cfg t e).Keeps cfg t false := by
  rw [Engine.sampleEnds]
  by_cases more : u.idx.toNat < u.req.toNat
  · rw [if_pos more]
    refine ⟨⟨count, index, fun _ => more, ?_, ?_, ?_, ?_, fun _ => quiet, ?_, fun _ => dist⟩,
      nofun, ?_⟩ <;> simp [quiet]
  · rw [if_neg more]
    exact finishEngine_keeps false count index e

variable (inv : u.Inv cfg t)
include inv

/-- GAP (44_ultrasound.md R266): a pulse of TRIG_TICKS starts the next cycle. -/
theorem Engine.gapMove_keeps (gap : u.st = .gap) (pulse : 0 < cfg.trigTicks.toNat) :
    (u.gapMove cfg).Keeps cfg t false := by
  obtain ⟨count, index, more, -, -, -, -, quiet, -, dist⟩ := inv
  have more := more gap
  have quiet := quiet (by simp [gap])
  have dist := dist (by simp [quiet])
  rw [Engine.gapMove]
  by_cases runOut : u.ctr = 0
  · have next : (u.idx + 1).toNat = u.idx.toNat + 1 := by
      have := u.req.isLt
      rw [BitVec.toNat_add, Nat.mod_eq_of_lt (by simp; omega)]
      rfl
    rw [if_pos runOut]
    refine ⟨count, index, ⟨?_, ?_, ?_, ?_, ?_, ?_, ?_, fun _ => quiet, ?_, fun _ => dist⟩,
      fun _ => rfl, ?_⟩ <;> simp [quiet] <;> omega
  · rw [if_neg runOut]
    refine ⟨⟨count, index, fun _ => more, ?_, ?_, ?_, ?_, fun _ => quiet, ?_, fun _ => dist⟩,
      nofun, ?_⟩ <;> simp [quiet, gap]

/-- TRIG (44_ultrasound.md R267). -/
theorem Engine.trigMove_keeps (trig : u.st = .trig) (line e : Bool) :
    (u.trigMove e).Keeps cfg t line := by
  obtain ⟨count, index, -, ahead, pulse, -, -, quiet, -, dist⟩ := inv
  have ahead := ahead (.inl trig)
  have pulse := pulse trig
  have quiet := quiet (by simp [trig])
  have dist := dist (by simp [quiet])
  have left : (u.ctr - 1).toNat = u.ctr.toNat - 1 :=
    toNat_sub_one_of_succ (by omega)
  rw [Engine.trigMove]
  by_cases runOut : u.ctr - 1 = 0
  · rw [if_pos runOut]
    refine ⟨count, index, ⟨count, index, ?_, fun _ => ahead, ?_, fun _ => .inl rfl, ?_,
      fun _ => quiet, ?_, fun _ => dist⟩, nofun, ?_⟩ <;> simp [quiet]
  · have notZero : (u.ctr - 1).toNat ≠ 0 := fun h => runOut (BitVec.eq_of_toNat_eq h)
    rw [if_neg runOut]
    refine ⟨⟨count, index, ?_, fun _ => ahead, fun _ => ?_, ?_, ?_, fun _ => quiet, ?_,
      fun _ => dist⟩, fun _ => trig, ?_⟩
    case refine_2 => exact ⟨by show 1 ≤ (u.ctr - 1).toNat; omega,
      by show (u.ctr - 1).toNat ≤ _; omega⟩
    all_goals simp [quiet, trig]

/-- WAIT_RISE (44_ultrasound.md R268, log 11). -/
theorem Engine.riseMove_keeps (rising : u.st = .waitRise) (e : Bool) :
    (u.riseMove cfg t e).Keeps cfg t false := by
  obtain ⟨count, index, -, ahead, -, waited, -, quiet, -, dist⟩ := inv
  have ahead := ahead (.inr (.inl rising))
  have waited : u.scnt.toNat = 0 ∨ u.scnt.toNat < t.sampleTo.toNat :=
    (waited rising).imp (fun zero => by rw [zero]; rfl) id
  have quiet := quiet (by simp [rising])
  have dist := dist (by simp [quiet])
  have counted := upSat_toNat u.scnt
  have limit := t.sampleTo.isLt
  rw [Engine.riseMove]
  by_cases edge : u.eprev = false ∧ e = true
  · rw [if_pos edge]
    refine ⟨⟨count, index, ?_, fun _ => ahead, ?_, ?_, fun _ => ⟨edge.2, Nat.zero_le _, ?_⟩,
      fun _ => quiet, ?_, fun _ => dist⟩, nofun, ?_⟩
    case refine_4 => show (upSat u.scnt).toNat ≤ _; omega
    all_goals simp [quiet]
  · rw [if_neg edge]
    by_cases late : t.sampleTo.toNat ≤ (upSat u.scnt).toNat
    · exact (if_pos late).symm ▸ Engine.sampleEnds_keeps
        (u := { u with scnt := upSat u.scnt }) quiet dist count index e
    · refine (if_neg late).symm ▸ ⟨⟨count, index, ?_, fun _ => ahead, ?_,
        fun _ => .inr (Nat.lt_of_not_le late), ?_, fun _ => quiet, ?_, fun _ => dist⟩, nofun, ?_⟩
      all_goals simp [quiet, rising]

/-- WAIT_FALL (44_ultrasound.md R269, log 11). -/
theorem Engine.fallMove_keeps (falling : u.st = .waitFall) (e : Bool) :
    (u.fallMove cfg t e).Keeps cfg t false := by
  obtain ⟨count, index, -, ahead, -, -, waited, quiet, -, dist⟩ := inv
  have ahead := ahead (.inr (.inr falling))
  obtain ⟨echo, watch, waited⟩ := waited falling
  have quiet := quiet (by simp [falling])
  have dist := dist (by simp [quiet])
  have counted := upSat_toNat u.scnt
  have stopped := upSat_toNat u.stopw
  have limit := t.sampleTo.isLt
  rw [Engine.fallMove]
  by_cases edge : u.eprev = true ∧ e = false
  · have next : (u.cnt + 1).toNat = u.cnt.toNat + 1 := by
      have := u.idx.isLt
      rw [BitVec.toNat_add, Nat.mod_eq_of_lt (by simp; omega)]
      rfl
    rw [if_pos edge]
    refine Engine.sampleEnds_keeps (u := addSample t.offset
      { u with scnt := upSat u.scnt, stopw := upSat u.stopw }) quiet dist ?_ index e
    show (u.cnt + 1).toNat ≤ u.idx.toNat
    omega
  · rw [if_neg edge]
    by_cases late : t.sampleTo.toNat ≤ (upSat u.scnt).toNat
    · exact (if_pos late).symm ▸ Engine.sampleEnds_keeps
        (u := { u with scnt := upSat u.scnt, stopw := upSat u.stopw }) quiet dist count index e
    · have stillHigh : e = true := by simpa [echo] using edge
      refine (if_neg late).symm ▸ ⟨⟨count, index, ?_, fun _ => ahead, ?_, ?_,
        fun _ => ⟨stillHigh, ?_, ?_⟩, fun _ => quiet, ?_, fun _ => dist⟩, nofun, ?_⟩
      case refine_4 => show (upSat u.stopw).toNat ≤ (upSat u.scnt).toNat; omega
      case refine_5 => show (upSat u.scnt).toNat ≤ _; omega
      all_goals simp [quiet, falling]

/-- A tick of the running engine keeps what holds of it and of the trigger line. -/
theorem Engine.move_keeps (running : u.st ≠ .idle) (pulse : 0 < cfg.trigTicks.toNat) {line : Bool}
    (high : line = true → u.st = .trig) (e : Bool) : (u.move cfg t e).Keeps cfg t line := by
  have low (h : u.st ≠ .trig) : line = false := Bool.eq_false_of_not_eq_true fun l => h (high l)
  have counted : u.tickCounted.Inv cfg t := inv
  rw [Engine.move]
  by_cases runOut : u.tickCounted.OverLimit t
  · rw [if_pos runOut]
    exact finishEngine_keeps line counted.1 counted.2.1 _
  · rw [if_neg runOut, Engine.phaseMove, show u.tickCounted.st = u.st from rfl]
    cases st : u.st with
    | idle => exact absurd st running
    | gap =>
      rw [low (by simp [st])]
      exact Engine.gapMove_keeps counted st pulse
    | trig => exact Engine.trigMove_keeps counted st line e
    | waitRise =>
      rw [low (by simp [st])]
      exact Engine.riseMove_keeps counted st e
    | waitFall =>
      rw [low (by simp [st])]
      exact Engine.fallMove_keeps counted st e

end engine

end Sys2Proof.Machine

/-! SUPPORT. The invariant of the machine kept by every step: by each write of a command, by the
agents of a tick, and by the end of a command. Settles the statements O59 and O60. -/

namespace Sys2Proof.Machine

/-! ### Writes of the state -/

namespace State.Inv
variable {s : State} (inv : s.Inv)
include inv

theorem withEnv (env : Env) : ({ s with env := env } : State).Inv := { inv with }

theorem withMotor (m : Fin 2) {motor : Motor} (h : motor.Inv) :
    ({ s with motors := s.motors.set m motor } : State).Inv :=
  { inv with
    motors := fun n => by
      show ((s.motors.set m motor).get n).Inv
      rw [Pair.get_set]
      split
      · exact h
      · exact inv.motors n }

theorem withLed (b : Fin 4) {d : W16} (h : d.toNat ≤ 16384) :
    ({ s with ledDuty := s.ledDuty.set b d } : State).Inv :=
  { inv with
    leds := fun n => by
      show ((s.ledDuty.set b d).get n).toNat ≤ 16384
      rw [Quad.get_set]
      split
      · exact h
      · exact inv.leds n }

theorem withSlot (n : Nat) {f : Subscriber → Subscriber}
    (hf : ∀ u : Subscriber, u.Inv → (f u).Inv) : (s.modifySlot n f).Inv :=
  { inv with
    slotCount := (List.length_set ..).trans inv.slotCount
    subs := State.modifySlot_inv inv.subs n hf }

/-- New registers of the engine, if they agree with the trigger line and the error record. -/
theorem withEngine {u : Engine} (h : u.Inv s.cfg s.usTune) (high : s.trig = true → u.st = .trig)
    (failed : u.res = .transport → s.err.fatal = true) : ({ s with us := u } : State).Inv :=
  { inv with engine := h, trigLine := high, transportRead := failed }

theorem memWrite (space : Space) (a : Nat) (v : Byte) : (s.memWrite space a v).Inv := by
  cases space with
  | frame =>
    rw [State.memWrite]
    split
    next inside => exact { inv with frame := Memory.write_wf inv.frame inside v }
    next => exact inv
  | stage =>
    rw [State.memWrite]
    split
    next inside => exact { inv with stage := Memory.write_wf inv.stage inside v }
    next => exact inv
  | gamma => exact inv

/-- The line of an engine that does not pulse is low. -/
theorem low (notPulse : s.us.st ≠ .trig) : s.trig = false :=
  Bool.eq_false_of_not_eq_true fun high => notPulse (inv.trigLine high)

/-! ### Leaf operations -/

theorem drivePwm (ch : PwmChannel) {d : W16} (h : d.toNat ≤ 16384) : (s.drivePwm ch d).Inv := by
  cases ch with
  | lp =>
    obtain ⟨lo, hi, -, dutyN⟩ := inv.motors 0
    exact inv.withMotor 0 ⟨lo, hi, h, dutyN⟩
  | ln =>
    obtain ⟨lo, hi, dutyP, -⟩ := inv.motors 0
    exact inv.withMotor 0 ⟨lo, hi, dutyP, h⟩
  | rp =>
    obtain ⟨lo, hi, -, dutyN⟩ := inv.motors 1
    exact inv.withMotor 1 ⟨lo, hi, h, dutyN⟩
  | rn =>
    obtain ⟨lo, hi, dutyP, -⟩ := inv.motors 1
    exact inv.withMotor 1 ⟨lo, hi, dutyP, h⟩
  | led b => exact inv.withLed b h

theorem driveLeaf {op : LeafOp} (h : op.OfCommand s.cfg) : (s.driveLeaf op).Inv := by
  cases op with
  | pwmSet ch d =>
    obtain ⟨-, -, -, -, brake, -⟩ := inv.cfg
    refine inv.drivePwm ch ?_
    rcases h with duty | rfl
    · exact duty
    · exact brake
  | gpioWrite line v =>
    cases line with
    | motorEn => exact { inv with }
    | trig => exact { inv with trigLine := fun high => absurd (h.symm.trans high) (by decide) }
  | i2cWrite bytes =>
    refine { inv with trace := fun w hw => ?_ }
    rcases List.mem_append.1 hw with old | new
    · exact inv.trace w old
    · rw [List.mem_singleton.1 new]
      exact ⟨rfl, h⟩

theorem leaf {op : LeafOp} (h : op.OfCommand s.cfg) : (s.leaf op).1.Inv := by
  rw [State.leaf_eq]
  split
  · exact (inv.driveLeaf h).withEnv _
  · exact inv.driveLeaf h

/-! ### Tunables -/

/-- A tunable of the ultrasound engine is written only while no read runs (44_ultrasound.md R273),
and what holds of an idle engine depends on no tunable. -/
theorem withUsTune (idle : s.us.st = .idle) (t : UsTunables) :
    ({ s with usTune := t } : State).Inv := by
  obtain ⟨count, index, -, -, -, -, -, -, result, dist⟩ := inv.engine
  exact { inv with engine := .of_idle idle count index result dist }

theorem writeTunable {t : Tunable} {v : W32} (h : tunableAllows t v s = none) :
    (s.writeTunable t v).Inv := by
  cases t with
  | btnEn =>
    rw [State.writeTunable]
    split
    · exact
      { inv with
        channels := fun b => by
          show ((s.channels.map teardownChannel).get b).Inv false
          rw [Quad.get_map]
          exact (inv.channels b).teardown }
    next keeps =>
      exact
      { inv with
        channels := fun b => (inv.channels b).enable fun off => by
          have zero : v = 0 := by simpa using off
          exact Bool.eq_false_of_not_eq_true fun on => keeps ⟨zero, on⟩ }
  | btnDebounce => exact { inv with }
  | btnDpwin => exact { inv with }
  | btnHoldmin => exact { inv with }
  | usOffset => exact inv.withUsTune (engineIdle_eq_none.1 h) _
  | usSampleTo => exact inv.withUsTune (engineIdle_eq_none.1 h) _
  | usOverall => exact inv.withUsTune (engineIdle_eq_none.1 h) _
  | usGap => exact inv.withUsTune (engineIdle_eq_none.1 h) _

end State.Inv

/-! ### Commands -/

/-- Every write of a command keeps the invariant. -/
theorem CommandWrite.keeps_inv {i : Instr} {s t : State} (w : CommandWrite s.cfg i s t)
    (inv : s.Inv) : t.Inv := by
  have slots (u : Subscriber) (hu : u.Inv) (mask : BitVec 12) :
      Subscriber.Inv { u with mask := u.mask ||| mask } ∧
      Subscriber.Inv { mask := u.mask &&& ~~~mask, pend := u.pend &&& ~~~mask } ∧
      Subscriber.Inv { u with pend := u.pend &&& ~~~mask } := by
    simp only [Subscriber.inv_iff, BitVec.getLsbD_or, BitVec.getLsbD_and] at hu ⊢
    refine ⟨fun j p => ?_, fun j p => ?_, fun j p => ?_⟩
    · rw [hu j p, Bool.true_or]
    · obtain ⟨pending, kept⟩ := Bool.and_eq_true_iff.1 p
      rw [hu j pending, kept, Bool.true_and]
    · exact hu j (Bool.and_eq_true_iff.1 p).1
  obtain ⟨count, index, -, -, -, -, -, -, result, dist⟩ := inv.engine
  cases w with
  | leaf op h => exact inv.leaf h
  | speed m v h =>
    obtain ⟨lo, hi⟩ := clampSpeed_bounds v
    obtain ⟨-, -, dutyP, dutyN⟩ := inv.motors m
    refine inv.withMotor m ⟨?_, ?_, dutyP, dutyN⟩
    · rw [BitVec.toInt_ofInt_eq_self] <;> omega
    · rw [BitVec.toInt_ofInt_eq_self] <;> omega
  | blink => exact { inv with blink := nofun }
  | subscribe n mask => exact inv.withSlot n fun u hu => (slots u hu mask).1
  | unsubscribe slot mask => exact inv.withSlot _ fun u hu => (slots u hu mask).2.1
  | acknowledge slot mask => exact inv.withSlot _ fun u hu => (slots u hu mask).2.2
  | memory space a v => exact inv.memWrite space a v
  | bus => exact { inv with }
  | tunable t v h => exact inv.writeTunable h
  | readStarts n h idle hn =>
    have low := inv.low (by simp [idle])
    have asked : 0 < n.toNat := Nat.pos_of_ne_zero fun h => hn (BitVec.eq_of_toNat_eq h)
    refine inv.withEngine ⟨?_, ?_, fun _ => ?_, ?_, ?_, ?_, ?_, ?_, ?_, ?_⟩ ?_ ?_ <;>
      simp [startRead, low, asked]
  | readClears h idle =>
    have low := inv.low (by simp [idle])
    refine inv.withEngine (.of_idle ?_ ?_ ?_ ?_ ?_) ?_ ?_ <;>
      simp [startRead, idle, low]
  | readFinishes idle noSample =>
    have low := inv.low (by simp [idle])
    refine inv.withEngine (.of_idle ?_ ?_ ?_ ?_ ?_) ?_ ?_ <;>
      simp [finishEngine, noSample, low, index]
  | readCancelled low =>
    refine inv.withEngine (.of_idle rfl count index ?_ ?_) ?_ ?_ <;> simp [low]
  | readCollected =>
    obtain ⟨-, -, more, ahead, pulse, rise, fall, quiet, -, -⟩ := inv.engine
    exact inv.withEngine ⟨count, index, more, ahead, pulse, rise, fall,
      fun running => ⟨rfl, (quiet running).2⟩, nofun, dist⟩ inv.trigLine inv.transportRead

/-! ### Resets and the ends of commands -/

/-- A state as after reset has the invariant if its parameters have a meaning and its bus writes
are those of the six forms. -/
theorem State.inert_inv {cfg : Config} (legal : cfg.Legal) (env : Env) {trace : List BusWrite}
    (forms : ∀ w ∈ trace, w.address = cfg.i2cAddr ∧ BusForm cfg w.bytes) :
    (State.inert cfg env trace).Inv where
  cfg := legal
  frame := Memory.nil_wf _
  stage := Memory.nil_wf _
  motors := fun m => by
    rw [show (State.inert cfg env trace).motors.get m = ⟨0, 0, 0⟩ from Pair.get_all _ m]
    decide
  channels := fun b => by
    rw [show (State.inert cfg env trace).channels.get b = Channel.initial from Quad.get_all _ b]
    exact (by decide : Channel.initial.Inv true)
  leds := fun b => by
    rw [show (State.inert cfg env trace).ledDuty.get b = 0 from Quad.get_all _ b]
    decide
  blink := fun _ => rfl
  slotCount := List.length_replicate
  subs := fun i => by
    rw [State.inert_slot]
    decide
  trace := forms
  engine := .of_idle rfl (Nat.le_refl _) (Nat.le_refl _) nofun fun _ => rfl
  trigLine := nofun
  transportRead := nofun
  transportError := nofun

theorem State.Inv.afterOk {s : State} (inv : s.Inv) (v : W32) : (s.afterOk v).Inv := { inv with }

/-- An error response: a transport failure sets FATAL, and nothing clears it (60_exceptions.md
R331). -/
theorem State.Inv.afterError {s : State} (inv : s.Inv) (cw : W64) (e : Status) (info : W32) :
    (s.afterError cw e info).Inv := by
  have fatal : (s.afterError cw e info).err.fatal = if e = .transportFailure then true
      else s.err.fatal := rfl
  refine { inv with transportRead := fun failed => ?_, transportError := fun failed => ?_ }
  · rw [fatal]
    split
    · rfl
    · exact inv.transportRead failed
  · rw [fatal, if_pos (show e = .transportFailure from failed)]

theorem Run.retire_inv {r : Run} (inv : r.state.Inv) (cw : W64) : (r.retire cw).Inv := by
  rcases r.retire_cases cw with ⟨-, ended⟩ | ⟨f, -, ended⟩
  · rw [ended]; exact inv.afterOk _
  · rw [ended]; exact inv.afterError _ _ _

theorem exec_inv {s t : State} {i : Instr} (inv : s.Inv) (h : exec i s = .next t) : t.Inv := by
  by_cases reset : i = .srst
  · subst reset
    rw [exec_srst] at h
    exact Host.Outcome.next.inj h ▸ State.inert_inv inv.cfg _ inv.trace
  · obtain ⟨r, follows, ended⟩ := exec_follows s i reset
    rw [ended] at h
    have kept : r.state.cfg = s.cfg ∧ r.state.Inv :=
      follows.wrote.keeps (P := fun u => u.cfg = s.cfg ∧ u.Inv)
        (fun a b w ⟨cfg, inv⟩ =>
          ⟨w.cfg_eq.trans cfg, (cfg ▸ w : CommandWrite a.cfg i a b).keeps_inv inv⟩)
        ⟨rfl, inv⟩
    exact Host.Outcome.next.inj h ▸ Run.retire_inv kept.2 _

/-! ### The agents of a tick -/

theorem State.Inv.emits {s : State} (inv : s.Inv) (b : Fin 4) (ks : List EventKind) :
    (ks.foldl (fun s k => s.emit b k) s).Inv := by
  induction ks generalizing s with
  | nil => exact inv
  | cons k ks ih =>
    refine ih (s := s.emit b k) { inv with slotCount := ?_, subs := fun i => ?_ }
    · exact (List.length_map ..).trans inv.slotCount
    · rw [State.emit_slot_eq]
      exact (inv.subs i).notify _

theorem State.Inv.buttonTick {s : State} (inv : s.Inv) (b : Fin 4) (r : Bool) :
    (s.buttonTick b r).Inv := by
  rw [State.buttonTick]
  split
  next enabled =>
    refine State.Inv.emits (s := { s with channels := s.channels.set b _ })
      { inv with channels := fun n => ?_ } b _
    show ((s.channels.set b _).get n).Inv s.btnEn
    rw [Quad.get_set]
    split
    · have tick := (enabled ▸ inv.channels b : (s.channels.get b).Inv true).tick s.btnTune s.now r
      rw [enabled]
      exact tick
    · exact inv.channels n
  next => exact inv

/-- An error of a tick step sets FATAL (60_exceptions.md R333). -/
theorem State.Inv.blinkLedOff {s : State} (inv : s.Inv) (b : Fin 4) : (s.blinkLedOff b).Inv := by
  rw [State.blinkLedOff_eq]
  have off := (inv.withLed b (d := 0) (by decide)).withEnv (s.leavesMade 1).env
  split
  · exact { off with transportRead := fun _ => rfl, transportError := fun _ => rfl }
  · exact off

theorem State.Inv.blinkTick {s : State} (inv : s.Inv) : s.blinkTick.Inv := by
  cases active : s.blinkActive with
  | false =>
    rw [s.blinkTick_frame.2.1 active]
    exact inv
  | true =>
    by_cases runOut : s.blinkTimer = 0
    · have atEnd := (State.blinkTick_over_leds active runOut).2.2
      have off := (((inv.blinkLedOff 0).blinkLedOff 1).blinkLedOff 2).blinkLedOff 3
      rw [State.blinkTick_over active runOut] at atEnd ⊢
      exact { off with blink := fun _ => atEnd }
    · rw [State.blinkTick_waits active runOut]
      exact { inv with blink := fun off => absurd (active.symm.trans off) (by decide) }

theorem State.Inv.engineTick {s : State} (inv : s.Inv) (e : Bool) : (s.engineTick e).Inv := by
  by_cases running : s.us.st = .idle
  · rw [(s.engineTick_frame e).2 running]
    exact inv
  · obtain ⟨-, -, -, pulse, -, -⟩ := inv.cfg
    have keeps := Engine.move_keeps inv.engine running pulse inv.trigLine e
    rw [State.engineTick_eq_outcome running]
    cases move : s.us.move s.cfg s.usTune e with
    | quiet u =>
      rw [move] at keeps
      obtain ⟨engine, high, result⟩ := keeps
      exact inv.withEngine engine high fun failed => absurd failed result
    | drive line before after =>
      rw [move] at keeps
      obtain ⟨count, index, engine, high, result⟩ := keeps
      rw [EngineMove.outcome]
      split
      · exact
        { inv with
          engine := .of_idle rfl count index nofun fun _ => rfl
          trigLine := nofun
          transportRead := fun _ => Bool.or_true _
          transportError := fun _ => Bool.or_true _ }
      · exact
        { inv with
          engine := engine
          trigLine := high
          transportRead := fun failed => absurd failed result }

theorem State.Inv.tickStep {s : State} (inv : s.Inv) (x : Sample) : (s.tickStep x).Inv := by
  have now : s.advanceNow.Inv := { inv with }
  have buttons : (s.advanceNow.buttonTicks x).Inv :=
    (((now.buttonTick 0 _).buttonTick 1 _).buttonTick 2 _).buttonTick 3 _
  exact buttons.blinkTick.engineTick x.echo

/-! ### The machine -/

/-- Settles O59: a step is a reset, a tick, a command, or the refusal of a word. -/
theorem stepKeepsTheInvariant : Obligations.StepKeepsTheInvariant := by
  intro s t inv h
  obtain ⟨s', cases⟩ := step_cases h
  have offered {x : Input} (o : s.Offers x s') : s'.Inv := by
    rw [o.state_eq]
    exact inv.withEnv _
  rcases cases with ⟨o, rfl⟩ | ⟨x, o, rfl⟩ | ⟨cw, i, o, -, run⟩ | ⟨cw, info, o, rfl⟩
  · exact State.inert_inv (offered o).cfg _ nofun
  · exact (offered o).tickStep x
  · exact exec_inv (offered o) run
  · exact (offered o).afterError _ _ _

/-- Settles O60: the state after reset is inert, with the default parameters and no bus write. -/
theorem resetHasTheInvariant : Obligations.ResetHasTheInvariant :=
  State.inert_inv (by decide) _ nofun

end Sys2Proof.Machine

/-! SUPPORT. The ultrasound engine over several ticks when no leaf operation can fail
(44_ultrasound.md R265 to R272): its registers go from tick to tick by themselves, and every read
ends. Settles the statements O50 and O52. -/

namespace Sys2Proof.Machine

/-! ### The registers from tick to tick -/

/-- The registers after a move whose write succeeds. -/
def EngineMove.registers : EngineMove → Engine
  | .quiet u => u
  | .drive _ _ after => after

/-- The registers after a tick of which no write fails. -/
def Engine.tick (cfg : Config) (t : UsTunables) (u : Engine) (x : Sample) : Engine :=
  if u.st = .idle then u else (u.move cfg t x.echo).registers

section ticks
variable {s : State} (infallible : s.cfg.leafCanFail = false)
include infallible

theorem EngineMove.outcome_us (m : EngineMove) : (m.outcome s).us = m.registers := by
  cases m with
  | quiet u => rfl
  | drive line before after =>
    rw [EngineMove.outcome, if_neg (by simp [infallible])]
    rfl

theorem State.tickStep_us (x : Sample) : (s.tickStep x).us = s.us.tick s.cfg s.usTune x := by
  obtain ⟨cfg, us, usTune, -⟩ := s.beforeEngine_frame x
  rw [State.tickStep, Engine.tick]
  by_cases idle : s.us.st = .idle
  · rw [if_pos idle, (State.engineTick_frame _ x.echo).2 (us ▸ idle), us]
  · rw [if_neg idle, State.engineTick_eq_outcome (us.symm ▸ idle),
      EngineMove.outcome_us (cfg ▸ infallible), us, cfg, usTune]

theorem State.afterTicks_us (samples : List Sample) :
    (s.afterTicks samples).us = samples.foldl (Engine.tick s.cfg s.usTune) s.us := by
  induction samples generalizing s with
  | nil => rfl
  | cons x samples ih =>
    obtain ⟨cfg, usTune⟩ := s.tickStep_tunables x
    have rest := ih (s := s.tickStep x) (cfg ▸ infallible)
    rw [cfg, usTune, State.tickStep_us infallible] at rest
    exact rest

end ticks

/-! ### Finished reads -/

/-- A read has finished with the registers at `u` (44_ultrasound.md R271). -/
structure Engine.Finished (cfg : Config) (u : Engine) : Prop where
  idle : u.st = .idle
  done : u.done = true
  timeout : u.cnt = 0 → u.res = .timeout ∧ u.dist = 0
  measured : u.cnt ≠ 0 → u.res = .ok ∧ u.dist = distance cfg u.total.toNat u.cnt.toNat

section finished
variable {cfg : Config} {t : UsTunables} {u : Engine}

theorem finishEngine_finished (e : Bool) :
    ({ finishEngine cfg u with eprev := e } : Engine).Finished cfg := by
  rw [finishEngine]
  by_cases noSample : u.cnt = 0
  · rw [if_pos noSample]
    exact ⟨rfl, rfl, fun _ => ⟨rfl, rfl⟩, fun some => absurd noSample some⟩
  · rw [if_neg noSample]
    exact ⟨rfl, rfl, fun none => absurd none noSample, fun _ => ⟨rfl, rfl⟩⟩

theorem Engine.Finished.tick (h : u.Finished cfg) (x : Sample) : u.tick cfg t x = u := if_pos h.idle

/-- The registers after a move of a read that goes on with the count `ocnt`, or has finished. -/
def EngineMove.GoesOn (cfg : Config) (ocnt : W32) (m : EngineMove) : Prop :=
  (m.registers.st ≠ .idle ∧ m.registers.ocnt = ocnt) ∨ m.registers.Finished cfg

theorem Engine.sampleEnds_goesOn (e : Bool) : (u.sampleEnds cfg t e).GoesOn cfg u.ocnt := by
  rw [Engine.sampleEnds]
  split
  · exact .inl ⟨nofun, rfl⟩
  · exact .inr (finishEngine_finished e)

/-- Every phase of a read goes on or finishes it. -/
theorem Engine.phaseMove_goesOn (running : u.st ≠ .idle) (e : Bool) :
    (u.phaseMove cfg t e).GoesOn cfg u.ocnt := by
  rw [Engine.phaseMove]
  cases st : u.st with
  | idle => exact absurd st running
  | gap =>
    simp only [Engine.gapMove]
    split
    · exact .inl ⟨nofun, rfl⟩
    · exact .inl ⟨by simp [EngineMove.registers, st], rfl⟩
  | trig =>
    simp only [Engine.trigMove]
    split
    · exact .inl ⟨nofun, rfl⟩
    · exact .inl ⟨by simp [EngineMove.registers, st], rfl⟩
  | waitRise =>
    simp only [Engine.riseMove]
    split
    · exact .inl ⟨nofun, rfl⟩
    · split
      · exact Engine.sampleEnds_goesOn (u := { u with scnt := upSat u.scnt }) e
      · exact .inl ⟨by simp [EngineMove.registers, st], rfl⟩
  | waitFall =>
    simp only [Engine.fallMove]
    split
    · exact Engine.sampleEnds_goesOn
        (u := addSample t.offset { u with scnt := upSat u.scnt, stopw := upSat u.stopw }) e
    · split
      · exact Engine.sampleEnds_goesOn
          (u := { u with scnt := upSat u.scnt, stopw := upSat u.stopw }) e
      · exact .inl ⟨by simp [EngineMove.registers, st], rfl⟩

/-- A tick of a running read counts it, or finishes it; at the overall limit it finishes it
(44_ultrasound.md R272). -/
theorem Engine.tick_counts (running : u.st ≠ .idle) (x : Sample) :
    ((u.tick cfg t x).st ≠ .idle ∧ (u.tick cfg t x).ocnt = upSat u.ocnt ∧
      ¬ u.tickCounted.OverLimit t) ∨ (u.tick cfg t x).Finished cfg := by
  rw [Engine.tick, if_neg running, Engine.move]
  by_cases runOut : u.tickCounted.OverLimit t
  · rw [if_pos runOut]
    exact .inr (finishEngine_finished _)
  · rw [if_neg runOut]
    rcases Engine.phaseMove_goesOn (u := u.tickCounted) running x.echo with
      ⟨stillRunning, ocnt⟩ | done
    · exact .inl ⟨stillRunning, ocnt, runOut⟩
    · exact .inr done

/-- Below the limit the ticks of a read are counted or it has finished. -/
theorem Engine.ticks_counted (running : u.st ≠ .idle) (start : u.ocnt = 0) (samples : List Sample)
    (bound : samples.length ≤ t.overall.toNat) (limited : t.overall ≠ 0) :
    let u' := samples.foldl (Engine.tick cfg t) u
    (u'.st ≠ .idle ∧ u'.ocnt.toNat = samples.length ∧ samples.length < t.overall.toNat) ∨
      u'.Finished cfg := by
  induction samples using List.reverseRecOn with
  | nil =>
    have some : 0 < t.overall.toNat :=
      Nat.pos_of_ne_zero fun zero => limited (BitVec.eq_of_toNat_eq zero)
    exact .inl ⟨running, by rw [List.foldl_nil, start]; rfl, some⟩
  | append_singleton samples x ih =>
    rw [List.length_append, List.length_singleton] at bound ⊢
    simp only [List.foldl_append, List.foldl_cons, List.foldl_nil]
    rcases ih (by omega) with ⟨running, counted, -⟩ | finished
    · rcases Engine.tick_counts (cfg := cfg) (t := t) running x with
        ⟨stillRunning, ocnt, below⟩ | finished
      · have next := upSat_toNat (samples.foldl (Engine.tick cfg t) u).ocnt
        have inRange := t.overall.isLt
        have notYet :
            ¬ t.overall.toNat ≤ (upSat (samples.foldl (Engine.tick cfg t) u).ocnt).toNat :=
          fun reached => below ⟨limited, reached⟩
        refine .inl ⟨stillRunning, ?_, ?_⟩
        · rw [ocnt]; omega
        · omega
      · exact .inr finished
    · rw [finished.tick]
      exact .inr finished

end finished

/-- Settles O50: at the limit the read cannot be one still counted below it. -/
theorem overallTimeoutEndsTheRead : Obligations.OverallTimeoutEndsTheRead := by
  intro s samples infallible running start limited length t
  have after : t.us = _ := State.afterTicks_us infallible samples
  rcases Engine.ticks_counted (cfg := s.cfg) running start samples length.le limited with
    ⟨-, -, below⟩ | ⟨idle, done, timeout, measured⟩
  · exact absurd length below.ne
  · rw [after]
    exact ⟨idle, done, timeout, measured⟩

/-! ### The bound of a read without an overall limit -/

/-- The most ticks a wait for the echo lasts before its last (44_ultrasound.md R268, R269, log
11). -/
def echoTicks (t : UsTunables) : Nat := max t.sampleTo.toNat 1

/-- The most ticks of a cycle: gap, pulse and wait (44_ultrasound.md R272). -/
def cycleTicks (cfg : Config) (t : UsTunables) : Nat :=
  1 + t.gap.toNat + cfg.trigTicks.toNat + echoTicks t + 1

/-- The read of `n` samples with its registers at `u` has finished after `n` cycles, or goes on and
has at most `left` ticks to go. -/
def Engine.EndsWithin (cfg : Config) (t : UsTunables) (n : Nat) (left : Nat) (u : Engine) : Prop :=
  u.req.toNat = n ∧
  match u.st with
  | .idle => u.idx.toNat = n ∧ u.Finished cfg
  | .gap => u.idx.toNat < n ∧
      u.ctr.toNat + 1 + cfg.trigTicks.toNat + echoTicks t + 1 +
        (n - u.idx.toNat - 1) * cycleTicks cfg t ≤ left
  | .trig => u.idx.toNat ≤ n ∧ 1 ≤ u.ctr.toNat ∧
      u.ctr.toNat + echoTicks t + 1 + (n - u.idx.toNat) * cycleTicks cfg t ≤ left
  | .waitRise => u.idx.toNat ≤ n ∧ u.scnt.toNat < echoTicks t ∧
      echoTicks t - u.scnt.toNat + 1 + (n - u.idx.toNat) * cycleTicks cfg t ≤ left
  | .waitFall => u.idx.toNat ≤ n ∧ u.scnt.toNat ≤ echoTicks t ∧
      echoTicks t - u.scnt.toNat + 1 + (n - u.idx.toNat) * cycleTicks cfg t ≤ left

section bound
variable {cfg : Config} {t : UsTunables} {u : Engine} {n left : Nat}

theorem Engine.sampleEnds_endsWithin (req : u.req.toNat = n) (idx : u.idx.toNat ≤ n)
    (inTime : (n - u.idx.toNat) * cycleTicks cfg t ≤ left) (e : Bool) :
    (u.sampleEnds cfg t e).registers.EndsWithin cfg t n left := by
  rw [Engine.sampleEnds]
  by_cases more : u.idx.toNat < u.req.toNat
  · rw [if_pos more]
    refine ⟨req, req ▸ more, ?_⟩
    obtain ⟨k, rest⟩ : ∃ k, n - u.idx.toNat = k + 1 := ⟨n - u.idx.toNat - 1, by omega⟩
    show t.gap.toNat + 1 + _ + _ + 1 + (n - u.idx.toNat - 1) * _ ≤ _
    rw [rest, Nat.add_mul] at inTime
    rw [rest, Nat.add_sub_cancel]
    unfold cycleTicks at inTime ⊢
    omega
  · rw [if_neg more]
    have finished : ({ finishEngine cfg u with eprev := e } : Engine).Finished cfg :=
      finishEngine_finished e
    have kept : (finishEngine cfg u).req = u.req ∧ (finishEngine cfg u).idx = u.idx := by
      rw [finishEngine]
      split <;> exact ⟨rfl, rfl⟩
    refine ⟨(congrArg BitVec.toNat kept.1).trans req, ?_⟩
    simp only [EngineMove.registers, finished.idle]
    exact ⟨by rw [kept.2]; omega, finished⟩

variable (h : u.EndsWithin cfg t n (left + 1))
include h

theorem Engine.gapMove_endsWithin (gap : u.st = .gap) (pulse : 0 < cfg.trigTicks.toNat) :
    (u.gapMove cfg).registers.EndsWithin cfg t n left := by
  obtain ⟨req, phase⟩ := h
  simp only [gap] at phase
  obtain ⟨idx, inTime⟩ := phase
  rw [Engine.gapMove]
  by_cases runOut : u.ctr = 0
  · have next : (u.idx + 1).toNat = u.idx.toNat + 1 := by
      have := u.req.isLt
      rw [BitVec.toNat_add, Nat.mod_eq_of_lt (by simp; omega)]
      rfl
    rw [if_pos runOut]
    refine ⟨req, by show (u.idx + 1).toNat ≤ n; omega, pulse, ?_⟩
    show cfg.trigTicks.toNat + _ + 1 + (n - (u.idx + 1).toNat) * _ ≤ _
    rw [next, Nat.sub_add_eq]
    omega
  · have left' : (u.ctr - 1).toNat = u.ctr.toNat - 1 := toNat_sub_one_of_succ (by
      have : u.ctr.toNat ≠ 0 := fun zero => runOut (BitVec.eq_of_toNat_eq zero)
      omega)
    have : u.ctr.toNat ≠ 0 := fun zero => runOut (BitVec.eq_of_toNat_eq zero)
    rw [if_neg runOut]
    refine ⟨req, ?_⟩
    simp only [EngineMove.registers, gap]
    exact ⟨idx, by rw [left']; omega⟩

theorem Engine.trigMove_endsWithin (trig : u.st = .trig) (e : Bool) :
    (u.trigMove e).registers.EndsWithin cfg t n left := by
  obtain ⟨req, phase⟩ := h
  simp only [trig] at phase
  obtain ⟨idx, pulse, inTime⟩ := phase
  have left' : (u.ctr - 1).toNat = u.ctr.toNat - 1 := toNat_sub_one_of_succ (by omega)
  rw [Engine.trigMove]
  by_cases runOut : u.ctr - 1 = 0
  · rw [if_pos runOut]
    refine ⟨req, idx, Nat.lt_of_lt_of_le Nat.one_pos (Nat.le_max_right _ _), ?_⟩
    show echoTicks t - 0 + 1 + (n - u.idx.toNat) * _ ≤ _
    omega
  · have : (u.ctr - 1).toNat ≠ 0 := fun zero => runOut (BitVec.eq_of_toNat_eq zero)
    rw [if_neg runOut]
    refine ⟨req, ?_⟩
    simp only [EngineMove.registers, trig]
    exact ⟨idx, by omega, by omega⟩

theorem Engine.riseMove_endsWithin (rising : u.st = .waitRise) (e : Bool) :
    (u.riseMove cfg t e).registers.EndsWithin cfg t n left := by
  obtain ⟨req, phase⟩ := h
  simp only [rising] at phase
  obtain ⟨idx, waited, inTime⟩ := phase
  have counted := upSat_toNat u.scnt
  have limit := t.sampleTo.isLt
  have echo : echoTicks t = max t.sampleTo.toNat 1 := rfl
  rw [Engine.riseMove]
  by_cases edge : u.eprev = false ∧ e = true
  · rw [if_pos edge]
    refine ⟨req, idx, ?_, ?_⟩
    · show (upSat u.scnt).toNat ≤ _
      omega
    · show echoTicks t - (upSat u.scnt).toNat + 1 + (n - u.idx.toNat) * _ ≤ _
      omega
  · rw [if_neg edge]
    by_cases late : t.sampleTo.toNat ≤ (upSat u.scnt).toNat
    · exact (if_pos late).symm ▸ Engine.sampleEnds_endsWithin
        (u := { u with scnt := upSat u.scnt }) req idx (by show (n - u.idx.toNat) * _ ≤ _; omega) e
    · refine (if_neg late).symm ▸ ⟨req, ?_⟩
      simp only [EngineMove.registers, rising]
      exact ⟨idx, by omega, by omega⟩

theorem Engine.fallMove_endsWithin (falling : u.st = .waitFall) (e : Bool) :
    (u.fallMove cfg t e).registers.EndsWithin cfg t n left := by
  obtain ⟨req, phase⟩ := h
  simp only [falling] at phase
  obtain ⟨idx, waited, inTime⟩ := phase
  have counted := upSat_toNat u.scnt
  have limit := t.sampleTo.isLt
  have echo : echoTicks t = max t.sampleTo.toNat 1 := rfl
  have nextCycle : (n - u.idx.toNat) * cycleTicks cfg t ≤ left := by omega
  rw [Engine.fallMove]
  by_cases edge : u.eprev = true ∧ e = false
  · rw [if_pos edge]
    exact Engine.sampleEnds_endsWithin (u := addSample t.offset
      { u with scnt := upSat u.scnt, stopw := upSat u.stopw }) req idx nextCycle e
  · rw [if_neg edge]
    by_cases late : t.sampleTo.toNat ≤ (upSat u.scnt).toNat
    · exact (if_pos late).symm ▸ Engine.sampleEnds_endsWithin
        (u := { u with scnt := upSat u.scnt, stopw := upSat u.stopw }) req idx nextCycle e
    · refine (if_neg late).symm ▸ ⟨req, ?_⟩
      simp only [EngineMove.registers, falling]
      exact ⟨idx, by omega, by omega⟩

/-- Each tick of a read without an overall limit brings it a tick nearer to its end. -/
theorem Engine.tick_endsWithin (unlimited : t.overall = 0) (pulse : 0 < cfg.trigTicks.toNat)
    (x : Sample) : (u.tick cfg t x).EndsWithin cfg t n left := by
  have counted (running : u.st ≠ .idle) : u.tickCounted.EndsWithin cfg t n (left + 1) := by
    obtain ⟨req, phase⟩ := h
    refine ⟨req, ?_⟩
    rw [show u.tickCounted.st = u.st from rfl]
    cases st : u.st with
    | idle => exact absurd st running
    | gap | trig | waitRise | waitFall =>
      simp only [st] at phase ⊢
      exact phase
  rw [Engine.tick]
  by_cases idle : u.st = .idle
  · rw [if_pos idle]
    obtain ⟨req, phase⟩ := h
    refine ⟨req, ?_⟩
    simp only [idle] at phase ⊢
    exact phase
  · have counted := counted idle
    rw [if_neg idle, Engine.move, if_neg fun limited => limited.1 unlimited, Engine.phaseMove,
      show u.tickCounted.st = u.st from rfl]
    cases st : u.st with
    | idle => exact absurd st idle
    | gap => exact Engine.gapMove_endsWithin counted st pulse
    | trig => exact Engine.trigMove_endsWithin counted st x.echo
    | waitRise => exact Engine.riseMove_endsWithin counted st x.echo
    | waitFall => exact Engine.fallMove_endsWithin counted st x.echo

end bound

theorem Engine.ticks_endWithin {cfg : Config} {t : UsTunables} {n : Nat}
    (unlimited : t.overall = 0) (pulse : 0 < cfg.trigTicks.toNat) (samples : List Sample) :
    ∀ (u : Engine) (left : Nat), u.EndsWithin cfg t n (left + samples.length) →
      (samples.foldl (Engine.tick cfg t) u).EndsWithin cfg t n left := by
  induction samples with
  | nil => exact fun u left h => h
  | cons x samples ih =>
    intro u left h
    exact ih _ left (Engine.tick_endsWithin h unlimited pulse x)

/-- A read with no tick left to go has finished. -/
theorem Engine.EndsWithin.finished {cfg : Config} {t : UsTunables} {n : Nat} {u : Engine}
    (h : u.EndsWithin cfg t n 0) : u.idx.toNat = n ∧ u.Finished cfg := by
  obtain ⟨req, phase⟩ := h
  cases st : u.st with
  | idle => simpa only [st] using phase
  | gap | trig | waitRise | waitFall =>
    simp only [st] at phase
    omega

/-- Settles O52: the read starts with its bound to go. -/
theorem everyReadEndsWithinItsBound : Obligations.EveryReadEndsWithinItsBound := by
  intro s samples infallible pulse gap ctr idx req unlimited length t
  have after : t.us = _ := State.afterTicks_us infallible samples
  have pulse : 0 < s.cfg.trigTicks.toNat :=
    Nat.pos_of_ne_zero fun zero => pulse (BitVec.eq_of_toNat_eq zero)
  have start : s.us.EndsWithin s.cfg s.usTune s.us.req.toNat (0 + samples.length) := by
    obtain ⟨k, samplesLeft⟩ : ∃ k, s.us.req.toNat = k + 1 := Nat.exists_eq_succ_of_ne_zero
      fun zero => req (BitVec.eq_of_toNat_eq zero)
    refine ⟨rfl, ?_⟩
    simp only [gap, ctr, idx]
    rw [samplesLeft] at length ⊢
    rw [Nat.add_mul] at length
    refine ⟨Nat.succ_pos k, ?_⟩
    show 0 + 1 + _ + _ + 1 + k * cycleTicks s.cfg s.usTune ≤ _
    unfold cycleTicks echoTicks
    omega
  obtain ⟨cycles, finished⟩ :=
    (Engine.ticks_endWithin unlimited pulse samples s.us 0 start).finished
  rw [← after] at cycles finished
  refine ⟨finished.idle, finished.done, BitVec.eq_of_toNat_eq cycles, ?_⟩
  by_cases none : t.us.cnt = 0
  · exact .inr (finished.timeout none).1
  · exact .inl (finished.measured none).1

end Sys2Proof.Machine

/-! SUPPORT. What a step can change: consequences of the writes of a command (`CommandWrite`) and of
the frames of the tick. The speeds, the interrupt lines, the bus trace, and what a rejected command
leaves. Settles the statements O19, O56, O57 and O58. -/

namespace Sys2Proof.Machine

/-! ### The end of a command -/

/-- The state after a command is the state its writes lead to, with the count, the error record and
the response; FATAL is never cleared. -/
theorem exec_writes {s t : State} {i : Instr} (notReset : i ≠ .srst) (h : exec i s = .next t) :
    ∃ u, CommandWrites s.cfg i s u ∧ t = { u with cmdseq := t.cmdseq, err := t.err, env := t.env } ∧
      (u.err.fatal = true → t.err.fatal = true) := by
  obtain ⟨r, follows, ended⟩ := exec_follows s i notReset
  obtain rfl : r.retire (encode i) = t := Host.Outcome.next.inj (ended.symm.trans h)
  refine ⟨r.state, follows.wrote, ?_⟩
  rcases r.retire_cases (encode i) with ⟨-, ended⟩ | ⟨f, -, ended⟩
  · rw [ended]
    exact ⟨rfl, id⟩
  · rw [ended]
    refine ⟨rfl, fun fatal => ?_⟩
    rw [State.afterError_err, fatal]
    rfl

/-- A step with a property of its own: each kind of input is looked at once. -/
theorem step_via {s t : State} {P : Instr → Prop} {Q : Prop} (h : step s = .next t)
    (tick : ∀ s' x, s.Offers (.tick x) s' → t = s'.tickStep x → Q)
    (command : ∀ s' cw i u, s.Offers (.command cw) s' → decode cw = .ok i → i ≠ .srst → ¬ P i →
      CommandWrites s'.cfg i s' u →
      t = { u with cmdseq := t.cmdseq, err := t.err, env := t.env } →
      (u.err.fatal = true → t.err.fatal = true) → Q)
    (illegal : ∀ s' cw info, s.Offers (.command cw) s' →
      t = s'.afterError cw .invalidCommand info → Q) :
    (∃ s', s.Offers .rst s' ∨
      ∃ cw i, s.Offers (.command cw) s' ∧ decode cw = .ok i ∧ (i = .srst ∨ P i)) ∨ Q := by
  obtain ⟨s', cases⟩ := step_cases h
  rcases cases with ⟨o, -⟩ | ⟨x, o, after⟩ | ⟨cw, i, o, decoded, run⟩ | ⟨cw, info, o, after⟩
  · exact .inl ⟨s', .inl o⟩
  · exact .inr (tick s' x o after)
  · by_cases named : i = .srst ∨ P i
    · exact .inl ⟨s', .inr ⟨cw, i, o, decoded, named⟩⟩
    · obtain ⟨notReset, other⟩ := not_or.1 named
      obtain ⟨u, writes, after, fatal⟩ := exec_writes notReset run
      exact .inr (command s' cw i u o decoded notReset other writes after fatal)
  · exact .inr (illegal s' cw info o after)

/-! ### The speeds -/

/-- A leaf operation drives lines; it does not set a speed (10_state.md R26). -/
theorem State.leaf_speed (s : State) (op : LeafOp) (m : Fin 2) :
    ((s.leaf op).1.motors.get m).speed = (s.motors.get m).speed := by
  have drive : ((s.driveLeaf op).motors.get m).speed = (s.motors.get m).speed := by
    cases op with
    | gpioWrite line v => cases line <;> rfl
    | i2cWrite bytes => rfl
    | pwmSet ch d =>
      cases ch with
      | led b => rfl
      | lp | ln | rp | rn =>
        simp only [State.driveLeaf, State.drivePwm, Pair.get_set]
        split
        next same => rw [same]
        next => rfl
  rw [State.leaf_eq]
  split <;> exact drive

theorem State.memWrite_motors (s : State) (space : Space) (a : Nat) (v : Byte) :
    (s.memWrite space a v).motors = s.motors := by
  cases space with
  | frame | stage => simp only [State.memWrite]; split <;> rfl
  | gamma => rfl

theorem State.writeTunable_motors (s : State) (t : Tunable) (v : W32) :
    (s.writeTunable t v).motors = s.motors := by
  cases t with
  | btnEn => rw [State.writeTunable]; split <;> rfl
  | _ => rfl

theorem CommandWrite.speed_eq {cfg : Config} {i : Instr} {s t : State}
    (w : CommandWrite cfg i s t) (other : ¬ i.setsSpeed) (m : Fin 2) :
    (t.motors.get m).speed = (s.motors.get m).speed := by
  cases w with
  | leaf op => exact s.leaf_speed op m
  | speed _ _ sets => exact absurd sets other
  | memory space a v => rw [State.memWrite_motors]
  | tunable t v => rw [State.writeTunable_motors]
  | blink | subscribe | unsubscribe | acknowledge | bus => rfl
  | readStarts | readClears | readFinishes | readCancelled | readCollected => rfl

/-- Settles O19: no tick and no write of another command sets a speed. -/
theorem onlySpeedCommandsChangeTheSpeeds : Obligations.OnlySpeedCommandsChangeTheSpeeds := by
  intro s t m h changed
  have via := step_via (P := Instr.setsSpeed) (Q := (t.motors.get m).speed = (s.motors.get m).speed)
    h ?_ ?_ ?_
  · rcases via with ⟨s', rst | ⟨cw, i, o, decoded, named⟩⟩ | same
    · exact ⟨s', .inl rst⟩
    · exact ⟨s', .inr ⟨cw, i, o, decoded, named.symm⟩⟩
    · exact absurd same changed
  · intro s' x o after
    rw [after, s'.tickStep_frame x, o.state_eq]
  · intro s' cw i u o _ _ other writes after _
    have kept : (u.motors.get m).speed = (s'.motors.get m).speed :=
      writes.keeps (P := fun u => (u.motors.get m).speed = (s'.motors.get m).speed)
        (fun a b w same => (w.speed_eq other m).trans same) rfl
    rw [after, kept, o.state_eq]
  · intro s' cw info o after
    rw [after, o.state_eq]
    rfl

/-! ### The bus trace -/

theorem State.memWrite_trace (s : State) (space : Space) (a : Nat) (v : Byte) :
    (s.memWrite space a v).trace = s.trace := by
  cases space with
  | frame | stage => simp only [State.memWrite]; split <;> rfl
  | gamma => rfl

theorem State.writeTunable_trace (s : State) (t : Tunable) (v : W32) :
    (s.writeTunable t v).trace = s.trace := by
  cases t with
  | btnEn => rw [State.writeTunable]; split <;> rfl
  | _ => rfl

/-- The trace has grown by bus writes of the six forms to I2C_ADDR. -/
def State.TraceGrows (s t : State) : Prop :=
  ∃ more, t.trace = s.trace ++ more ∧
    ∀ w ∈ more, w.address = s.cfg.i2cAddr ∧ BusForm s.cfg w.bytes

theorem State.TraceGrows.of_eq {s t : State} (h : t.trace = s.trace) : s.TraceGrows t :=
  ⟨[], by rw [h, List.append_nil], nofun⟩

theorem State.TraceGrows.trans {s t u : State} (h : s.TraceGrows t) (cfg : t.cfg = s.cfg)
    (h' : t.TraceGrows u) : s.TraceGrows u := by
  obtain ⟨first, grown, forms⟩ := h
  obtain ⟨second, grown', forms'⟩ := h'
  refine ⟨first ++ second, by rw [grown', grown, List.append_assoc], fun w hw => ?_⟩
  rcases List.mem_append.1 hw with hw | hw
  · exact forms w hw
  · exact cfg ▸ forms' w hw

theorem State.leaf_traceGrows {s : State} {op : LeafOp} (h : op.OfCommand s.cfg) :
    s.TraceGrows (s.leaf op).1 := by
  have drive : s.TraceGrows (s.driveLeaf op) := by
    cases op with
    | gpioWrite line v => cases line <;> exact .of_eq rfl
    | pwmSet ch d => cases ch <;> exact .of_eq rfl
    | i2cWrite bytes =>
      exact ⟨[_], rfl, fun w hw => by rw [List.mem_singleton.1 hw]; exact ⟨rfl, h⟩⟩
  rw [State.leaf_eq]
  split <;> exact drive

theorem CommandWrite.traceGrows {i : Instr} {s t : State} (w : CommandWrite s.cfg i s t) :
    s.TraceGrows t := by
  cases w with
  | leaf op h => exact State.leaf_traceGrows h
  | memory space a v => exact .of_eq (s.memWrite_trace space a v)
  | tunable t v => exact .of_eq (s.writeTunable_trace t v)
  | speed | blink | subscribe | unsubscribe | acknowledge | bus => exact .of_eq rfl
  | readStarts | readClears | readFinishes | readCancelled | readCollected => exact .of_eq rfl

/-- Settles O58: the pin empties the trace, SRST and the ticks leave it, and every write of a
command lets it grow. -/
theorem busTraceOnlyGrowsByTheSixForms : Obligations.BusTraceOnlyGrowsByTheSixForms := by
  refine ⟨rfl, rfl, rfl, rfl, rfl, rfl, fun s t h => ?_⟩
  obtain ⟨s', cases⟩ := step_cases h
  have offered {x : Input} (o : s.Offers x s') : s'.trace = s.trace ∧ s'.cfg = s.cfg := by
    rw [o.state_eq]
    exact ⟨rfl, rfl⟩
  have grows {x : Input} (o : s.Offers x s') (h : s'.TraceGrows t) : s.TraceGrows t :=
    (State.TraceGrows.of_eq (offered o).1).trans (offered o).2 h
  rcases cases with ⟨o, after⟩ | ⟨x, o, after⟩ | ⟨cw, i, o, -, run⟩ | ⟨cw, info, o, after⟩
  · exact .inr ⟨⟨s', o⟩, by rw [after]; rfl⟩
  · refine .inl (grows o (.of_eq ?_))
    rw [after, s'.tickStep_frame x]
  · refine .inl (grows o ?_)
    by_cases reset : i = .srst
    · subst reset
      rw [exec_srst] at run
      rw [← Host.Outcome.next.inj run]
      exact .of_eq rfl
    · obtain ⟨u, writes, after, -⟩ := exec_writes reset run
      have kept : u.cfg = s'.cfg ∧ s'.TraceGrows u :=
        writes.keeps (P := fun u => u.cfg = s'.cfg ∧ s'.TraceGrows u)
          (fun a b w ⟨cfg, grown⟩ => ⟨w.cfg_eq.trans cfg,
            grown.trans cfg (cfg ▸ w : CommandWrite a.cfg i a b).traceGrows⟩)
          ⟨rfl, .of_eq rfl⟩
      obtain ⟨more, grown, forms⟩ := kept.2
      exact ⟨more, by rw [after]; exact grown, forms⟩
  · refine .inl (grows o (.of_eq ?_))
    rw [after]
    rfl

/-! ### The interrupt lines -/

/-- No agent clears FATAL (60_exceptions.md R333). -/
theorem State.tickStep_fatal {s : State} (fatal : s.err.fatal = true) (x : Sample) :
    (s.tickStep x).err.fatal = true := by
  have off {s : State} (fatal : s.err.fatal = true) (b : Fin 4) :
      (s.blinkLedOff b).err.fatal = true := by
    rw [State.blinkLedOff_eq]
    split
    · rfl
    · exact fatal
  have blink {s : State} (fatal : s.err.fatal = true) : s.blinkTick.err.fatal = true := by
    cases active : s.blinkActive with
    | false => rw [s.blinkTick_frame.2.1 active, fatal]
    | true =>
      by_cases runOut : s.blinkTimer = 0
      · rw [State.blinkTick_over active runOut]
        exact off (off (off (off fatal 0) 1) 2) 3
      · rw [State.blinkTick_waits active runOut]
        exact fatal
  have engine {s : State} (fatal : s.err.fatal = true) (e : Bool) :
      (s.engineTick e).err.fatal = true := by
    by_cases idle : s.us.st = .idle
    · rw [(s.engineTick_frame e).2 idle, fatal]
    · rw [State.engineTick_eq_outcome idle]
      cases s.us.move s.cfg s.usTune e with
      | quiet u => exact fatal
      | drive line before after =>
        rw [EngineMove.outcome]
        split
        · exact Bool.or_true _
        · exact fatal
  have buttons : (s.advanceNow.buttonTicks x).err.fatal = true := by
    rw [State.buttonTicks_frame]
    exact fatal
  exact engine (blink buttons) x.echo

theorem Engine.sampleEnds_done {cfg : Config} {t : UsTunables} {e : Bool} {u : Engine}
    (done : u.done = true) : (u.sampleEnds cfg t e).registers.done = true := by
  rw [Engine.sampleEnds]
  split
  · exact done
  · exact (finishEngine_finished e).done

/-- A move of the engine does not take a result away. -/
theorem Engine.move_done {cfg : Config} {t : UsTunables} {e : Bool} {u : Engine}
    (done : u.done = true) : (u.move cfg t e).registers.done = true := by
  rw [Engine.move]
  split
  · exact (finishEngine_finished (u := u.tickCounted) u.eprev).done
  · rw [Engine.phaseMove]
    split
    · exact done
    · rw [Engine.gapMove]; split <;> exact done
    · rw [Engine.trigMove]; split <;> exact done
    · simp only [Engine.riseMove]
      split_ifs
      · exact done
      · refine Engine.sampleEnds_done ?_; exact done
      · exact done
    · simp only [Engine.fallMove]
      split_ifs
      · refine Engine.sampleEnds_done ?_; exact done
      · refine Engine.sampleEnds_done ?_; exact done
      · exact done

/-- No tick takes a result away. -/
theorem State.tickStep_done {s : State} (done : s.us.done = true) (x : Sample) :
    (s.tickStep x).us.done = true := by
  have before : (s.advanceNow.buttonTicks x).blinkTick.us.done = true := by
    rw [(State.blinkTick_frame _).1, State.buttonTicks_frame]
    exact done
  rw [State.tickStep]
  generalize (s.advanceNow.buttonTicks x).blinkTick = s' at before
  by_cases idle : s'.us.st = .idle
  · rw [(s'.engineTick_frame x.echo).2 idle, before]
  · have after := Engine.move_done (cfg := s'.cfg) (t := s'.usTune) (e := x.echo) before
    rw [State.engineTick_eq_outcome idle]
    cases move : s'.us.move s'.cfg s'.usTune x.echo with
    | quiet u =>
      rw [move] at after
      exact after
    | drive line before after' =>
      rw [move] at after
      rw [EngineMove.outcome]
      split
      · rfl
      · exact after

/-- No tick clears a pending bit. -/
theorem State.tickStep_irqSub {s : State} {j : Nat} (pending : s.irqSub j = true) (x : Sample) :
    (s.tickStep x).irqSub j = true := by
  rw [State.irqSub, bne_iff_ne] at pending ⊢
  intro none
  refine pending (BitVec.eq_of_getLsbD_eq fun n hn => ?_)
  have bit := s.tickStep_pend x ⟨n / 3, by omega⟩ j (Nat.mod_lt n (by decide : 0 < 3))
  have clear : (0 : BitVec 12).getLsbD n = false := BitVec.getLsbD_zero
  rw [none, Nat.div_add_mod, clear] at bit
  rw [clear]
  exact (Bool.or_eq_false_iff.1 bit.symm).1

/-- A change of one slot lowers the line of no other. -/
theorem State.modifySlot_irqSub {s : State} {i j : Nat} (f : Subscriber → Subscriber)
    (h : j = i → (f (s.slot i)).pend = (s.slot i).pend) :
    (s.modifySlot i f).irqSub j = s.irqSub j := by
  rcases Nat.lt_or_ge i s.subs.length with there | absent
  · rw [State.irqSub, State.modifySlot_slot s there]
    split
    next same => rw [h same, same]; rfl
    next => rfl
  · rw [State.modifySlot, List.set_eq_of_length_le absent]

theorem State.memWrite_us (s : State) (space : Space) (a : Nat) (v : Byte) :
    (s.memWrite space a v).us = s.us ∧ (s.memWrite space a v).subs = s.subs ∧
      (s.memWrite space a v).err = s.err := by
  cases space with
  | frame | stage => simp only [State.memWrite]; split <;> exact ⟨rfl, rfl, rfl⟩
  | gamma => exact ⟨rfl, rfl, rfl⟩

theorem State.writeTunable_us (s : State) (t : Tunable) (v : W32) :
    (s.writeTunable t v).us = s.us ∧ (s.writeTunable t v).subs = s.subs ∧
      (s.writeTunable t v).err = s.err := by
  cases t with
  | btnEn => rw [State.writeTunable]; split <;> exact ⟨rfl, rfl, rfl⟩
  | _ => exact ⟨rfl, rfl, rfl⟩

section lines
variable {cfg : Config} {i : Instr} {s t : State} (w : CommandWrite cfg i s t)
include w

theorem CommandWrite.err_eq : t.err = s.err := by
  cases w with
  | leaf op => exact s.leaf_err op
  | memory space a v => exact (s.memWrite_us space a v).2.2
  | tunable t v => exact (s.writeTunable_us t v).2.2
  | speed | blink | subscribe | unsubscribe | acknowledge | bus => rfl
  | readStarts | readClears | readFinishes | readCancelled | readCollected => rfl

/-- Only URD and UGET take a result away (44_ultrasound.md R261, R262). -/
theorem CommandWrite.done_kept (other : ¬ (i = .uget ∨ ∃ n, i = .urd n))
    (done : s.us.done = true) : t.us.done = true := by
  cases w with
  | leaf op => rw [s.leaf_us op, done]
  | memory space a v => rw [(s.memWrite_us space a v).1, done]
  | tunable t v => rw [(s.writeTunable_us t v).1, done]
  | speed | blink | subscribe | unsubscribe | acknowledge | bus => exact done
  | readStarts n h => exact absurd (.inr ⟨n, h⟩) other
  | readClears h => exact absurd (.inr ⟨0, h⟩) other
  | readFinishes => exact (finishEngine_finished (u := s.us) s.us.eprev).done
  | readCancelled => rfl
  | readCollected h => exact absurd (.inl h) other

/-- Only BACK and BUNSUB of a slot clear its pending bits (41_button.md R173, R174). -/
theorem CommandWrite.irqSub_eq {j : Nat}
    (other : ¬ ∃ slot m, slot.toNat = j ∧ (i = .back slot m ∨ i = .bunsub slot m)) :
    t.irqSub j = s.irqSub j := by
  have same {u : State} (h : u.subs = s.subs) : u.irqSub j = s.irqSub j := by
    rw [State.irqSub, State.slot_congr h]
    rfl
  cases w with
  | leaf op => exact same (s.leaf_subs op)
  | memory space a v => exact same (s.memWrite_us space a v).2.1
  | tunable t v => exact same (s.writeTunable_us t v).2.1
  | subscribe n mask => exact State.modifySlot_irqSub _ fun _ => rfl
  | unsubscribe slot mask h =>
    exact State.modifySlot_irqSub _ fun named => absurd ⟨slot, mask, named.symm, .inr h⟩ other
  | acknowledge slot mask h =>
    exact State.modifySlot_irqSub _ fun named => absurd ⟨slot, mask, named.symm, .inl h⟩ other
  | speed | blink | bus => rfl
  | readStarts | readClears | readFinishes | readCancelled | readCollected => rfl

end lines

/-- Settles O57, line by line. -/
theorem interruptLinesFallOnlyOnTheirCommands :
    Obligations.InterruptLinesFallOnlyOnTheirCommands := by
  intro s t h via
  have fallen {a b : Prop} (falls : a ∨ b) (notKept : ¬ b) : a := falls.resolve_right notKept
  refine ⟨fun high low => ?_, fun high low => ?_, fun j high low => ?_⟩
  · refine fallen (step_via (Q := t.irqFatal = true) h ?_ ?_ ?_) (by rw [low]; decide)
    · intro s' x o after
      rw [after]
      exact State.tickStep_fatal (by rw [o.state_eq]; exact high) x
    · intro s' cw i u o _ _ _ writes _ kept
      have record : u.err = s'.err :=
        writes.keeps (P := fun u => u.err = s'.err) (fun a b w same => w.err_eq.trans same) rfl
      exact kept (by rw [record, o.state_eq]; exact high)
    · intro s' cw info o after
      have fatal : s'.err.fatal = true := by rw [o.state_eq]; exact high
      rw [after, State.irqFatal, State.afterError_err, fatal]
      rfl
  · refine fallen (step_via (Q := t.irqUs = true) h ?_ ?_ ?_) (by rw [low]; decide)
    · intro s' x o after
      rw [after]
      exact State.tickStep_done (by rw [o.state_eq]; exact high) x
    · intro s' cw i u o _ _ other writes after _
      have kept : u.us.done = true := writes.keeps (P := fun u => u.us.done = true)
        (fun a b w done => w.done_kept other done) (by rw [o.state_eq]; exact high)
      rw [after]
      exact kept
    · intro s' cw info o after
      rw [after, o.state_eq]
      exact high
  · refine fallen (step_via (Q := t.irqSub j = true) h ?_ ?_ ?_) (by rw [low]; decide)
    · intro s' x o after
      rw [after]
      exact State.tickStep_irqSub (by rw [o.state_eq]; exact high) x
    · intro s' cw i u o _ _ other writes after _
      have kept : u.irqSub j = true := writes.keeps (P := fun u => u.irqSub j = true)
        (fun a b w pending => (w.irqSub_eq other).trans pending) (by rw [o.state_eq]; exact high)
      rw [after]
      exact kept
    · intro s' cw info o after
      rw [after, o.state_eq]
      exact high

/-! ### Rejected commands -/

theorem statusField_append (code : BitVec 8) (info : W32) :
    statusField (code ++ (0 : BitVec 24) ++ info) = code := by
  rw [statusField]
  ext i hi
  simp only [BitVec.getElem_extractLsb', BitVec.getLsbD_append]
  rw [if_neg (by omega), if_neg (by omega)]
  simp [show 56 + i - 32 - 24 = i by omega, BitVec.getLsbD_eq_getElem hi]

/-- The last response is the one appended. -/
theorem last_response {l l' : List W64} {a b : W64} (h : l ++ [a] = l' ++ [b]) : a = b :=
  (List.concat_inj.1 (by simpa using h)).2

/-- Settles O56: an error other than a transport failure was raised before any write, or by a UGET
that collects. -/
theorem rejectedCommandChangesOnlyTheRecord : Obligations.RejectedCommandChangesOnlyTheRecord := by
  intro s t i rsp h response notOk notTransport
  by_cases reset : i = .srst
  · subst reset
    rw [exec_srst] at h
    rw [← Host.Outcome.next.inj h] at response
    exact absurd (by rw [← last_response response]; rfl) notOk
  · obtain ⟨r, follows, ended⟩ := exec_follows s i reset
    obtain rfl : r.retire (encode i) = t := Host.Outcome.next.inj (ended.symm.trans h)
    rcases r.retire_cases (encode i) with ⟨-, retired⟩ | ⟨f, failed, retired⟩
    · rw [retired] at response
      exact absurd (by rw [← last_response response]; exact statusField_append _ _) notOk
    · rw [retired] at response ⊢
      have status : f.status.code ≠ 0x02 := by
        rw [← last_response response, statusField_append] at notTransport
        exact notTransport
      have rejected : f.status ≠ .transportFailure := fun transport =>
        status (by rw [transport]; rfl)
      rcases follows.rejects f failed rejected with same | ⟨uget, collected⟩
      · rw [same]
        exact ⟨fun _ => rfl, fun _ => .inl rfl⟩
      · rw [collected]
        exact ⟨fun other => absurd uget other, fun _ => .inr rfl⟩

end Sys2Proof.Machine

/-! SUPPORT. Admission (60_exceptions.md R325): the form of a command, FATAL, and the state checks,
each with the one error it ends the command with. Settles the statements O10, O53 and O54. -/

namespace Sys2Proof.Machine

/-! ### Refused commands -/

/-- A command whose checks fail with status `e` and `info` ends with them. -/
theorem command_refused_with {s : State} {i : Instr} {checks : List Check} {body : Run → Run}
    {e : Status} {info : W32} (h : firstFailure checks s = some ⟨e, info⟩) :
    command i checks body s = .next (s.afterError (encode i) e info) := by
  rw [command_refused h]

/-! ### Register numbers -/

/-- A number outside a range is outside every run within it. -/
theorem regRun_outside {lo count lo' hi' n : Nat} (reg : Fin count → Reg)
    (outside : ¬ (lo' ≤ n ∧ n < hi')) (within : lo' ≤ lo ∧ lo + count ≤ hi') :
    regRun lo count reg n = none :=
  dif_neg (by omega)

theorem inRun_iff {n lo count : Nat} : inRun n lo count = true ↔ lo ≤ n ∧ n < lo + count :=
  decide_eq_true_iff

/-- The numbers of the register map (10_state.md R22). -/
theorem wellFormed_rd_iff (n : W16) : Instr.wellFormed (.rd n) = true ↔
    n.toNat < 0x009 ∨ (0x010 ≤ n.toNat ∧ n.toNat < 0x016) ∨ (0x020 ≤ n.toNat ∧ n.toNat < 0x029) ∨
    (0x030 ≤ n.toNat ∧ n.toNat < 0x044) ∨ (0x050 ≤ n.toNat ∧ n.toNat < 0x058) ∨
    (0x060 ≤ n.toNat ∧ n.toNat < 0x06C) ∨ (0x080 ≤ n.toNat ∧ n.toNat < 0x084) ∨
    (0x088 ≤ n.toNat ∧ n.toNat < 0x092) ∨ (0x0A0 ≤ n.toNat ∧ n.toNat < 0x0B2) ∨
    (0x100 ≤ n.toNat ∧ n.toNat < 0x200) := by
  simp only [Instr.wellFormed, registerRuns, List.any_cons, List.any_nil, Bool.or_eq_true,
    Bool.false_eq_true, or_false, inRun_iff, Nat.zero_le, true_and, Nat.zero_add, Nat.reduceAdd]

/-- The numbers of the RW registers (10_state.md R22). -/
theorem wellFormed_wr_iff (n : W16) (v : W32) : Instr.wellFormed (.wr n v) = true ↔
    (0x020 ≤ n.toNat ∧ n.toNat < 0x024) ∨ (0x080 ≤ n.toNat ∧ n.toNat < 0x084) := by
  simp only [Instr.wellFormed, writableRuns, List.any_cons, List.any_nil, Bool.or_eq_true,
    Bool.false_eq_true, or_false, inRun_iff, Nat.reduceAdd]

/-- A number outside the map names no register. -/
theorem regOfNumber_none {n : W16} (h : Instr.wellFormed (.rd n) = false) :
    regOfNumber n = none := by
  have outside := mt (wellFormed_rd_iff n).2 (by rw [h]; exact Bool.false_ne_true)
  simp only [not_or] at outside
  obtain ⟨-, motors, buttons, channels, slots, counts, -, -, frame, gamma⟩ := outside
  have leds : ¬ (0x024 ≤ n.toNat ∧ n.toNat < 0x028) := fun inside => buttons (by omega)
  unfold regOfNumber
  split
  case h_29 =>
    rw [regRun_outside (lo := 0x010) _ motors (by decide),
      regRun_outside (lo := 0x012) _ motors (by decide),
      regRun_outside (lo := 0x024) _ leds (by decide),
      regRun_outside (lo := 0x030) _ channels (by decide),
      regRun_outside (lo := 0x034) _ channels (by decide),
      regRun_outside (lo := 0x038) _ channels (by decide),
      regRun_outside (lo := 0x03C) _ channels (by decide),
      regRun_outside (lo := 0x040) _ channels (by decide),
      regRun_outside (lo := 0x050) _ slots (by decide),
      regRun_outside (lo := 0x054) _ slots (by decide),
      regRun_outside (lo := 0x060) _ counts (by decide),
      regRun_outside (lo := 0x0A0) _ frame (by decide),
      regRun_outside (lo := 0x100) _ gamma (by decide)]
    rfl
  all_goals
    next number =>
      rw [Instr.wellFormed, number] at h
      exact absurd h (by decide)

/-- A number that is not RW names no tunable (45_system.md R302). -/
theorem tunableOfNumber_none {n : W16} {v : W32} (h : Instr.wellFormed (.wr n v) = false) :
    tunableOfNumber n = none := by
  unfold tunableOfNumber
  split
  case h_9 => rfl
  all_goals
    next number =>
      rw [Instr.wellFormed, number] at h
      exact absurd h (by decide)

/-- An RW number names a tunable (45_system.md R302). -/
theorem tunableOfNumber_some {n : W16} {v : W32} (h : Instr.wellFormed (.wr n v) = true) :
    ∃ t, tunableOfNumber n = some t := by
  have inside := (wellFormed_wr_iff n v).1 h
  obtain number | number | number | number | number | number | number | number :
      n.toNat = 0x020 ∨ n.toNat = 0x021 ∨ n.toNat = 0x022 ∨ n.toNat = 0x023 ∨
      n.toNat = 0x080 ∨ n.toNat = 0x081 ∨ n.toNat = 0x082 ∨ n.toNat = 0x083 := by omega
  all_goals
    rw [tunableOfNumber, number]
    exact ⟨_, rfl⟩

/-- Settles O10: an ill-formed number names no register, and that check comes first. -/
theorem illFormedRegisterIsInvalidCommand : Obligations.IllFormedRegisterIsInvalidCommand := by
  refine ⟨wellFormed_rd_iff, wellFormed_wr_iff, fun i h => ?_, fun s n v => ⟨fun h => ?_,
    fun h => ?_⟩⟩
  · cases i with
    | rd n => exact .inl ⟨n, rfl⟩
    | wr n v => exact .inr ⟨n, v, rfl⟩
    | _ => cases h
  · have refused : registerExists n s = some ⟨.invalidCommand, zext32 n⟩ := by
      rw [registerExists, regOfNumber_none h]
    rw [exec, execRd]
    exact command_refused_with (firstFailure_cons_some refused)
  · have refused : registerWritable n s = some ⟨.invalidCommand, zext32 n⟩ := by
      rw [registerWritable, tunableOfNumber_none h]
    rw [exec, execWr]
    exact command_refused_with (firstFailure_cons_some refused)

/-! ### FATAL -/

theorem registerWritable_none {n : W16} {v : W32} (h : Instr.wellFormed (.wr n v) = true)
    (s : State) : registerWritable n s = none := by
  obtain ⟨t, tunable⟩ := tunableOfNumber_some h
  rw [registerWritable, tunable]

/-- A command that checks FATAL first is refused while it is set (60_exceptions.md R332). -/
theorem command_fatal {s : State} (fatal : s.err.fatal = true) (i : Instr) (checks : List Check)
    (body : Run → Run) :
    command i (notFatal :: checks) body s = .next (s.afterError (encode i) .fatal 0) :=
  command_refused_with (firstFailure_cons_some (notFatal_some fatal))

theorem exec_fatal {s : State} {i : Instr} (fatal : s.err.fatal = true)
    (notExempt : ¬ i.fatalExempt) (wellFormed : i.wellFormed = true) :
    exec i s = .next (s.afterError (encode i) .fatal 0) := by
  cases i with
  | nop => exact absurd (.inl rfl) notExempt
  | srst => exact absurd (.inr (.inl rfl)) notExempt
  | rd n => exact absurd (.inr (.inr ⟨n, rfl⟩)) notExempt
  | wr n v =>
    rw [exec, execWr]
    exact command_refused_with ((firstFailure_cons_none (registerWritable_none wellFormed s)).trans
      (firstFailure_cons_some (notFatal_some fatal)))
  | _ =>
    simp only [exec, execBled, execBledb, execBledall, execBledallb, execBhold, execBsub,
      execBunsub, execBack, execBblink, execMset, execMboth, execMdis, execMfwd, execMbwd,
      execMtl, execMtr, execMcfl, execMcfr, execMcbl, execMcbr, execMstop, execMcoast, execSnen,
      execSndis, execSnrst, execSnmask, execSnupd, execSnout, execSnoutr, execStw, execStr,
      execUrd, execUcancel, execUget, execUinit, execUfini, execUset, execUfill, execUclr,
      execUclrall, execUshow, execUhsv, execUfillhsv]
    exact command_fatal fatal _ _ _

/-! ### The tick and the error record -/

section record
variable (s : State) (e : ErrorRecord)

theorem State.buttonTicks_withErr (x : Sample) : ({ s with err := e } : State).buttonTicks x =
    { s.buttonTicks x with err := e } := by
  have emits (b : Fin 4) (ks : List EventKind) (s : State) :
      ks.foldl (fun s k => s.emit b k) { s with err := e } =
        { ks.foldl (fun s k => s.emit b k) s with err := e } := by
    induction ks generalizing s with
    | nil => rfl
    | cons k ks ih => exact ih (s.emit b k)
  have tick (s : State) (b : Fin 4) (r : Bool) : ({ s with err := e } : State).buttonTick b r =
      { s.buttonTick b r with err := e } := by
    rw [State.buttonTick, State.buttonTick]
    split
    · exact emits b (channelTick s.btnTune s.now r (s.channels.get b)).2
        { s with channels := s.channels.set b (channelTick s.btnTune s.now r (s.channels.get b)).1 }
    · rfl
  simp only [State.buttonTicks, tick]

variable (infallible : s.cfg.leafCanFail = false)
include infallible

theorem State.blinkTick_withErr : ({ s with err := e } : State).blinkTick =
    { s.blinkTick with err := e } := by
  have off (s : State) (infallible : s.cfg.leafCanFail = false) (b : Fin 4) :
      s.blinkLedOff b = { s with ledDuty := s.ledDuty.set b 0 } := by
    rw [State.blinkLedOff_eq]
    simp [infallible, State.leavesMade]
  rw [State.blinkTick, State.blinkTick]
  split
  · split
    · simp only [List.foldl_cons, List.foldl_nil, off, infallible]
    · rfl
  · rfl

theorem State.engineTick_withErr (b : Bool) : ({ s with err := e } : State).engineTick b =
    { s.engineTick b with err := e } := by
  by_cases idle : s.us.st = .idle
  · rw [(s.engineTick_frame b).2 idle]
    exact (State.engineTick_frame { s with err := e } b).2 idle
  · rw [State.engineTick_eq_outcome idle,
      State.engineTick_eq_outcome (s := { s with err := e }) idle]
    cases s.us.move s.cfg s.usTune b with
    | quiet u => rfl
    | drive line before after =>
      have noFail (a : Answer) : ¬ (s.cfg.leafCanFail = true ∧ a = .fail) := by simp [infallible]
      rw [EngineMove.outcome, EngineMove.outcome, if_neg (noFail _), if_neg (noFail _)]
      rfl

/-- Without LEAF_CAN_FAIL no agent looks at the error record or changes it. -/
theorem State.tickStep_withErr (x : Sample) : ({ s with err := e } : State).tickStep x =
    { s.tickStep x with err := e } := by
  have buttons : (s.advanceNow.buttonTicks x).cfg.leafCanFail = false := by
    rw [State.buttonTicks_frame]
    exact infallible
  have blink : (s.advanceNow.buttonTicks x).blinkTick.cfg.leafCanFail = false := by
    rw [(State.blinkTick_frame _).1]
    exact buttons
  rw [State.tickStep, State.tickStep, ← State.engineTick_withErr _ _ blink,
    ← State.blinkTick_withErr _ _ buttons, ← State.buttonTicks_withErr]
  rfl

end record

/-- Settles O53. -/
theorem fatalRefusesAllButThreeCommands : Obligations.FatalRefusesAllButThreeCommands :=
  ⟨fun _ _ fatal notExempt wellFormed => exec_fatal fatal notExempt wellFormed,
    fun s _ x infallible => s.tickStep_withErr _ infallible x⟩

/-! ### The state checks -/

/-- The second check of a command admitted past FATAL refuses it. -/
theorem command_secondCheck {s : State} (hf : s.err.fatal = false) (i : Instr) {c : Check}
    {e : Status} {info : W32} (checks : List Check) (body : Run → Run) (h : c s = some ⟨e, info⟩) :
    command i (notFatal :: c :: checks) body s = .next (s.afterError (encode i) e info) :=
  command_refused_with
    ((firstFailure_cons_none (notFatal_none hf)).trans (firstFailure_cons_some h))

theorem exec_notOpen {s : State} {i : Instr} (hf : s.err.fatal = false) (needs : i.needsBus)
    (closed : s.i2cOpen = false) : exec i s = .next (s.afterError (encode i) .notOpen 0) := by
  have refused := fun i checks body =>
    command_secondCheck hf i checks body (busOpen_some closed)
  obtain single | ⟨_, rfl⟩ | ⟨_, rfl⟩ | ⟨_, rfl⟩ | ⟨_, _, _, _, _, rfl⟩ | ⟨_, _, _, _, rfl⟩ |
    ⟨_, _, rfl⟩ | ⟨_, rfl⟩ | ⟨_, _, _, _, _, rfl⟩ | ⟨_, _, _, _, rfl⟩ := needs
  · simp only [List.mem_cons, List.not_mem_nil, or_false] at single
    obtain rfl | rfl | rfl | rfl | rfl | rfl := single
    all_goals
      simp only [exec, execSnen, execSndis, execSnrst, execSnupd, execUfini, execUshow]
      exact refused _ _ _
  all_goals
    simp only [exec, execSnmask, execSnout, execSnoutr, execUset, execUfill, execUclr, execUclrall,
      execUhsv, execUfillhsv]
    exact refused _ _ _

/-- The ultrasound tunables are those numbered 0x080 to 0x083. -/
theorem tunableOfNumber_us {n : W16} (low : 0x080 ≤ n.toNat) (high : n.toNat ≤ 0x083) :
    ∃ t, tunableOfNumber n = some t ∧ ∀ v, tunableAllows t v = engineIdle := by
  obtain number | number | number | number :
      n.toNat = 0x080 ∨ n.toNat = 0x081 ∨ n.toNat = 0x082 ∨ n.toNat = 0x083 := by omega
  all_goals
    rw [tunableOfNumber, number]
    exact ⟨_, rfl, fun _ => rfl⟩

theorem exec_busy {s : State} {i : Instr} (hf : s.err.fatal = false) (needs : i.needsIdle)
    (running : s.us.st ≠ .idle) :
    exec i s = .next (s.afterError (encode i) .busy (s.us.st.code.setWidth 32)) := by
  obtain ⟨_, rfl⟩ | rfl | ⟨n, v, rfl, low, high⟩ := needs
  · rw [exec, execUrd]
    exact command_secondCheck hf _ _ _ (engineIdle_some running)
  · rw [exec, execUget]
    exact command_secondCheck hf _ _ _ (engineIdle_some running)
  · obtain ⟨t, tunable, allows⟩ := tunableOfNumber_us low high
    have writable : registerWritable n s = none := by rw [registerWritable, tunable]
    have refused : writeAllowed n v s = some ⟨.busy, zext32 s.us.st.code⟩ := by
      rw [writeAllowed, tunable]
      exact (congrFun (allows v) s).trans (engineIdle_some running)
    rw [exec, execWr]
    exact command_refused_with ((firstFailure_cons_none writable).trans
      ((firstFailure_cons_none (notFatal_none hf)).trans (firstFailure_cons_some refused)))

/-- Settles O54, check by check. -/
theorem stateChecksRefuseTheCommand : Obligations.StateChecksRefuseTheCommand := by
  intro s i hf
  refine ⟨exec_notOpen hf, ?_, exec_busy hf, ?_⟩
  · rintro rfl opened
    rw [exec, execUinit]
    exact command_secondCheck hf _ _ _ (busClosed_some opened)
  · rintro rfl idle none
    rw [exec, execUget]
    exact command_refused_with ((firstFailure_cons_none (notFatal_none hf)).trans
      ((firstFailure_cons_none (engineIdle_none idle)).trans
        (firstFailure_cons_some (resultWaiting_some none))))

end Sys2Proof.Machine

/-! SUPPORT. The motor, LED, register, staging and ultrasound commands: each admitted command with
its whole next state, and the operands out of range. Settles the statements O11, O13, O15, O17, O20,
O23, O36, O44 and O45. -/

namespace Sys2Proof.Machine

/-! ### Operands out of range -/

section outOfRange
variable {s : State} (hf : s.err.fatal = false)
include hf

/-- A selector out of range ends the command with its info (30_encoding.md R96 (d)). -/
theorem command_selector_out (i : Instr) {n : Nat} {sel : BitVec 4} (info : W32)
    (g : Fin n → Run → Run) (h : n ≤ sel.toNat) :
    command i [notFatal] (fun r => r.withSelector n sel info g) s =
      .next (s.afterError (encode i) .invalidInput info) := by
  rw [command_notFatal hf, Run.withSelector_out s 0 0 _ _ h, Run.retire_some]

/-- A light out of range ends the command with 0x10 plus its number (43_underlight.md R235). -/
theorem command_light_out (ho : s.i2cOpen = true) (i : Instr) {light : BitVec 4}
    (g : Fin 6 → Run → Run) (h : 6 ≤ light.toNat) :
    command i [notFatal, busOpen] (fun r => r.withLight light g) s =
      .next (s.afterError (encode i) .invalidInput (BitVec.ofNat 32 (0x10 + light.toNat))) := by
  have info : (0x10 : W32) + zext32 light = BitVec.ofNat 32 (0x10 + light.toNat) := by
    rw [BitVec.ofNat_add, BitVec.ofNat_toNat]
    rfl
  rw [command_busOpen hf ho, Run.withLight, Run.withSelector_out s 0 0 _ _ h, Run.retire_some, info]

end outOfRange

/-! ### Motors -/

section motors
variable {s : State} (hf : s.err.fatal = false) (hl : s.LeavesOk 6)
include hf hl

/-- A motor in range is driven by MSET (40_motor.md R121). -/
theorem exec_mset {m : BitVec 4} (h : m.toNat < 2) (v : W16) :
    exec (.mset m v) s =
      .next ((({ s with motorEn := true,
                        motors := s.motors.set ⟨m.toNat, h⟩ (motorAt s.cfg v.toInt) } :
        State).leavesMade 3).afterOk 0) := by
  rw [exec, execMset, command_notFatal hf, Run.withSelector_ok s 0 0 _ _ h,
    Run.setSpeed_ok s 0 0 _ _ (hl.mono (by omega)), Run.retire_none]
  rfl

/-- Every command that sets both speeds drives both motors (40_motor.md R123 to R134). -/
theorem exec_setsSpeed {i : Instr} (sets : i.setsSpeed) (both : ∀ m v, i ≠ .mset m v) :
    ∃ left right : Int, exec i s =
      .next ((({ s with motorEn := true,
                        motors := ⟨motorAt s.cfg left, motorAt s.cfg right⟩ } :
        State).leavesMade 6).afterOk 0) := by
  obtain rfl | ⟨m, v, rfl⟩ | ⟨v, named⟩ := sets
  · exact ⟨0, 0, command_setSpeeds hf hl _ 0 0⟩
  · exact absurd rfl (both m v)
  · simp only [List.mem_cons, List.not_mem_nil, or_false] at named
    obtain rfl | rfl | rfl | rfl | rfl | rfl | rfl | rfl | rfl := named
    all_goals exact ⟨_, _, command_setSpeeds hf hl _ _ _⟩

end motors

/-- Settles O13. -/
theorem setSpeedDrivesTheMotors : Obligations.SetSpeedDrivesTheMotors := by
  intro s v hf hl
  exact ⟨fun m h => exec_mset hf hl h v, command_setSpeeds hf hl _ _ _⟩

/-- Settles O15. -/
theorem disableCoastsTheMotors : Obligations.DisableCoastsTheMotors := by
  intro s hf hl coasting
  constructor
  · rw [exec, execMdis, command_notFatal hf, Run.disable_ok s 0 0 hl, Run.retire_none]
  · rw [exec, execMcoast, command_notFatal hf, Run.disable_ok s 0 0 hl, Run.retire_none]

/-- The laws of a driven motor (40_motor.md R136). -/
theorem motorAt_laws (cfg : Config) (v : Int) :
    (-16384 ≤ (motorAt cfg v).speed.toInt ∧ (motorAt cfg v).speed.toInt ≤ 16384 ∧
      ((motorAt cfg v).dutyP.toNat = 16384 ∨ (motorAt cfg v).dutyN.toNat = 16384) ∧
      ((motorAt cfg v).dutyP.toNat < 16384 → (motorAt cfg v).speed.toInt < 0) ∧
      ((motorAt cfg v).dutyN.toNat < 16384 → 0 ≤ (motorAt cfg v).speed.toInt)) := by
  obtain ⟨low, high⟩ := clampSpeed_bounds v
  have speed : (BitVec.ofInt 16 (clampSpeed v)).toInt = clampSpeed v :=
    BitVec.toInt_ofInt_eq_self (by decide) (by omega) (by omega)
  rw [motorAt_eq]
  simp only [speed]
  rcases lt_trichotomy (clampSpeed v) 0 with neg | zero | pos
  · obtain ⟨hp, hn⟩ := dutyPair_of_neg cfg neg low
    exact ⟨low, high, .inr (by omega), fun _ => neg, by omega⟩
  · rw [zero, dutyPair_zero]
    exact ⟨by omega, by omega, .inl rfl, fun less => absurd less (Nat.lt_irrefl 16384),
      fun _ => le_rfl⟩
  · obtain ⟨hp, hn⟩ := dutyPair_of_pos cfg pos high
    exact ⟨low, high, .inl (by omega), by omega, by omega⟩

/-- Settles O17: a changed motor is some `motorAt`. -/
theorem speedCommandsKeepTheMotorLaws : Obligations.SpeedCommandsKeepTheMotorLaws := by
  refine ⟨fun i s t sets hl h m => ?_, fun s hf hl => ?_⟩
  · by_cases fatal : s.err.fatal = true
    · have refused : exec i s = .next (s.afterError (encode i) .fatal 0) := by
        refine exec_fatal fatal ?_ ?_
        · rintro (rfl | rfl | ⟨n, rfl⟩) <;> simp [Instr.setsSpeed] at sets
        · obtain rfl | ⟨m, v, rfl⟩ | ⟨v, named⟩ := sets
          · rfl
          · rfl
          · simp only [List.mem_cons, List.not_mem_nil, or_false] at named
            obtain rfl | rfl | rfl | rfl | rfl | rfl | rfl | rfl | rfl := named
            all_goals rfl
      rw [← Host.Outcome.next.inj (refused.symm.trans h)]
      exact .inl rfl
    · have hf : s.err.fatal = false := Bool.eq_false_of_not_eq_true fatal
      by_cases one : ∃ n v, i = .mset n v
      · obtain ⟨n, v, rfl⟩ := one
        by_cases inRange : n.toNat < 2
        · rw [← Host.Outcome.next.inj ((exec_mset hf hl inRange v).symm.trans h)]
          have motor : (s.motors.set ⟨n.toNat, inRange⟩ (motorAt s.cfg v.toInt)).get m = _ :=
            Pair.get_set ..
          intro x
          rw [show x = _ from motor]
          split
          · exact .inr ⟨rfl, motorAt_laws _ _⟩
          · exact .inl rfl
        · have refused := command_selector_out hf (.mset n v) (zext32 n)
            (fun m r => r.setSpeed m (sext16 v)) (Nat.le_of_not_lt inRange)
          rw [← Host.Outcome.next.inj (refused.symm.trans h)]
          exact .inl rfl
      · push Not at one
        obtain ⟨left, right, run⟩ := exec_setsSpeed hf hl sets one
        rw [← Host.Outcome.next.inj (run.symm.trans h)]
        match m with
        | 0 => exact .inr ⟨rfl, motorAt_laws _ left⟩
        | 1 => exact .inr ⟨rfl, motorAt_laws _ right⟩
  · refine ⟨_, command_setSpeeds hf hl _ _ _, fun m => ?_⟩
    match m with
    | 0 | 1 => rfl

/-! ### LEDs -/

/-- One LED driven (41_button.md R180, R181). -/
theorem Run.led_ok {s : State} (hl : s.LeavesOk 1) (b : Fin 4) (d : W16) :
    Run.leaf ⟨s, 0, none, 0⟩ (.pwmSet (.led b) d) =
      ⟨({ s with ledDuty := s.ledDuty.set b d } : State).leavesMade 1, 1, none, 0⟩ :=
  Run.pwm_ok (.led b) d hl

/-- Settles O20: one LED or all four. -/
theorem ledCommandsDriveTheLeds : Obligations.LedCommandsDriveTheLeds := by
  intro s v on interval hf hl d full
  have duty : dutyOf (clampUnit (sext16 v)) = d := dutyOf_clampUnit v
  have flag : dutyOfBool on = full := by cases on <;> rfl
  refine ⟨fun b h => ⟨?_, ?_⟩, ?_, ?_, ?_⟩
  · rw [exec, execBled, command_notFatal hf, Run.withSelector_ok s 0 0 _ _ h,
      Run.led_ok (hl.mono (by omega)), Run.retire_none, duty]
  · rw [exec, execBledb, command_notFatal hf, Run.withSelector_ok s 0 0 _ _ h,
      Run.led_ok (hl.mono (by omega)), Run.retire_none, flag]
  · rw [exec, execBledall, command_notFatal hf, Run.ledAll_ok s 0 0 _ hl, Run.retire_none, duty]
  · rw [exec, execBledallb, command_notFatal hf, Run.ledAll_ok s 0 0 _ hl, Run.retire_none, flag]
  · rw [exec, execBblink, command_notFatal hf, Run.ledAll_ok s 0 0 _ hl, Run.write_none,
      Run.retire_none]
    rfl

/-! ### Tunables -/

section tunables
variable {s : State} (hf : s.err.fatal = false) {n : W16} {t : Tunable}
  (tunable : tunableOfNumber n = some t)
include hf tunable

/-- An allowed WR writes the tunable and answers the value (45_system.md R302). -/
theorem exec_wr {v : W32} (allowed : tunableAllows t v s = none) :
    exec (.wr n v) s = .next ((s.writeTunable t v).afterOk v) := by
  have admitted : firstFailure [registerWritable n, notFatal, writeAllowed n v] s = none := by
    rw [firstFailure_cons_none (by rw [registerWritable, tunable]),
      firstFailure_cons_none (notFatal_none hf),
      firstFailure_cons_none (by rw [writeAllowed, tunable]; exact allowed)]
    rfl
  rw [exec, execWr, command_admitted admitted, tunable]
  rfl

theorem exec_wr_refused {v : W32} {e : Status} {info : W32}
    (refused : tunableAllows t v s = some ⟨e, info⟩) :
    exec (.wr n v) s = .next (s.afterError (encode (.wr n v)) e info) := by
  have first :
      firstFailure [registerWritable n, notFatal, writeAllowed n v] s = some ⟨e, info⟩ := by
    rw [firstFailure_cons_none (by rw [registerWritable, tunable]),
      firstFailure_cons_none (notFatal_none hf),
      firstFailure_cons_some (by rw [writeAllowed, tunable]; exact refused)]
  rw [exec, execWr, command_refused_with first]

end tunables

/-- A channel after teardown, field by field (41_button.md R166, log 9). -/
theorem teardownChannel_eq (c : Channel) : teardownChannel c =
    { c with gst := .idle, level := true, dbcnt := 0, holdcnt := 0, dparmed := false, dptimer := 0,
             holdsub := if c.holdsub = .started then .canceled else c.holdsub,
             holding := if c.holdsub = .started then false else c.holding } := by
  rw [teardownChannel]
  by_cases started : c.holdsub = .started
  · simp only [started, if_true]
  · simp only [started, if_false]

/-- Settles O11. -/
theorem writeSetsTheTunable : Obligations.WriteSetsTheTunable := by
  intro s v hf
  refine ⟨exec_wr hf (t := .btnDebounce) rfl rfl, exec_wr hf (t := .btnDpwin) rfl rfl,
    exec_wr hf (t := .btnHoldmin) rfl rfl, fun idle => ?_, ?_, fun off => ?_, fun on => ?_,
    fun big => ?_⟩
  · have allowed := engineIdle_none idle
    exact ⟨exec_wr hf (t := .usOffset) rfl allowed, exec_wr hf (t := .usSampleTo) rfl allowed,
      exec_wr hf (t := .usOverall) rfl allowed, exec_wr hf (t := .usGap) rfl allowed⟩
  · exact exec_wr hf (t := .btnEn) rfl rfl
  · have kept : s.writeTunable .btnEn 0 = s := by
      rw [State.writeTunable, if_neg (by simp [off])]
      show { s with btnEn := false } = s
      rw [← off]
    rw [exec_wr hf (t := .btnEn) rfl rfl, kept]
  · have torn : s.writeTunable .btnEn 0 =
        { s with btnEn := false, channels := s.channels.map teardownChannel } :=
      if_pos ⟨rfl, on⟩
    rw [exec_wr hf (t := .btnEn) rfl rfl, torn, funext teardownChannel_eq]
  · exact exec_wr_refused hf (t := .btnEn) rfl (if_pos big)

/-! ### The stage -/

theorem Run.checkIndex_ok {s : State} {idx : W16} (h : idx.toNat < s.cfg.stageSize) :
    Run.checkIndex ⟨s, 0, none, 0⟩ idx = ⟨s, 0, none, 0⟩ := by
  rw [Run.checkIndex, decide_eq_false (Nat.not_le.2 h), Run.raiseIf_false]

theorem Run.checkIndex_out {s : State} {idx : W16} (h : s.cfg.stageSize ≤ idx.toNat) :
    Run.checkIndex ⟨s, 0, none, 0⟩ idx = ⟨s, 0, some ⟨.invalidInput, zext32 idx⟩, 0⟩ := by
  rw [Run.checkIndex, decide_eq_true h, Run.raiseIf_true, Run.raise_none]

/-- Settles O36: the cell written is that of `Memory.read_write`. -/
theorem stageIsWrittenAndReadByCell : Obligations.StageIsWrittenAndReadByCell := by
  refine ⟨rfl, fun s idx v hf h => ⟨⟨s.stage.write idx.toNat v, fun a => ?_, ?_⟩, ?_⟩⟩
  · exact Memory.read_write s.stage idx.toNat a v
  · rw [exec, execStw, command_notFatal hf, Run.checkIndex_ok h, Run.write_none, Run.retire_none,
      State.memWrite_stage s v h]
  · rw [exec, execStr, command_notFatal hf, Run.checkIndex_ok h, Run.answer_none, Run.retire_none]
    rfl

/-! ### Reads of the ultrasound engine -/

/-- Settles O44. -/
theorem readStartsOrFinishesAtOnce : Obligations.ReadStartsOrFinishesAtOnce := by
  intro s n hf idle
  have admitted : firstFailure [notFatal, engineIdle] s = none :=
    (firstFailure_cons_none (notFatal_none hf)).trans
      (firstFailure_cons_none (engineIdle_none idle))
  refine ⟨fun some => ?_, fun leavesOk => ?_⟩
  · rw [exec, execUrd, command_admitted admitted]
    simp only [if_neg some, Run.engine_none, Run.retire_none]
    rfl
  · rw [exec, execUrd, command_admitted admitted]
    simp only [if_true, Run.engine_none, Run.finish]
    rw [Run.trig_engine_ok leavesOk, Run.retire_none, startRead_zero_idle idle]
    rfl

/-- Settles O45: one line per outcome. -/
theorem getReportsTheOutcome : Obligations.GetReportsTheOutcome := by
  intro s hf idle done t info
  have admitted : firstFailure [notFatal, engineIdle, resultWaiting] s = none :=
    (firstFailure_cons_none (notFatal_none hf)).trans
      ((firstFailure_cons_none (engineIdle_none idle)).trans
        (firstFailure_cons_none (resultWaiting_none done)))
  have collected : exec .uget s =
      .next ((Run.readOutcome ⟨t, 0, none, 0⟩).retire (encode .uget)) := by
    rw [exec, execUget, command_admitted admitted]
    rfl
  have outcome (r : UsResult) (h : s.us.res = r) : t.us.res = r := h
  refine ⟨fun h => ?_, fun h => ?_, fun h => ?_, fun h => ?_, fun h => ?_⟩
  · rw [collected, Run.readOutcome]
    simp only [outcome _ h, Run.answer_none, Run.retire_none]
    rfl
  · rw [collected, Run.readOutcome]
    simp only [outcome _ h, Run.raise_none, Run.retire_some]
    rfl
  · rw [collected, Run.readOutcome]
    simp only [outcome _ h, Run.raise_none, Run.retire_some]
    rfl
  · rw [collected, Run.readOutcome]
    simp only [outcome _ h, Run.raise_none, Run.retire_some]
  · rw [collected, Run.readOutcome]
    simp only [outcome _ h, Run.raise_none, Run.retire_some]

/-! ### Rejected operands -/

/-- A bus output of a failed run is not made (60_exceptions.md R331). -/
theorem Run.output_some (s : State) (k : Nat) (f : Failure) (v : W32) (vs : List Byte) :
    Run.output ⟨s, k, some f, v⟩ vs = ⟨s, k, some f, v⟩ := rfl

theorem Run.showIf_some (s : State) (k : Nat) (f : Failure) (v : W32) (showNow : Bool) :
    Run.showIf ⟨s, k, some f, v⟩ showNow = ⟨s, k, some f, v⟩ := by
  cases showNow <;> rfl

/-- An RGB component outside 0..255 (43_underlight.md R235). -/
theorem componentOk_eq_false {v : W16} (bad : v.toInt < 0 ∨ 255 < v.toInt) :
    componentOk v = false := by
  rw [componentOk, sext16]
  exact decide_eq_false (by omega)

theorem componentOk_eq_true {v : W16} (good : ¬ (v.toInt < 0 ∨ 255 < v.toInt)) :
    componentOk v = true := by
  rw [componentOk, sext16]
  exact decide_eq_true (by omega)

section components
variable (s : State) (r g b : W16) {ro go bo : Bool}

/-- The first bad component is reported (43_underlight.md R235). -/
theorem Run.checkRgb_eq (hr : componentOk r = ro) (hg : componentOk g = go)
    (hb : componentOk b = bo) : Run.checkRgb ⟨s, 0, none, 0⟩ r g b =
      ⟨s, 0, if !ro then some ⟨.invalidInput, 0⟩ else if !go then some ⟨.invalidInput, 1⟩
        else if !bo then some ⟨.invalidInput, 2⟩ else none, 0⟩ := by
  rw [Run.checkRgb, hr, hg, hb]
  cases ro <;> cases go <;> cases bo <;> rfl

variable {s r g b}

/-- USET and UFILL with a bad component end with its number. -/
theorem exec_badComponent (hf : s.err.fatal = false) (ho : s.i2cOpen = true) {l : BitVec 4}
    (hl : l.toNat < 6) (showNow : Bool) {info : W32}
    (bad : Run.checkRgb ⟨s, 0, none, 0⟩ r g b = ⟨s, 0, some ⟨.invalidInput, info⟩, 0⟩) :
    exec (.uset l showNow r g b) s =
      .next (s.afterError (encode (.uset l showNow r g b)) .invalidInput info) ∧
    exec (.ufill showNow r g b) s =
      .next (s.afterError (encode (.ufill showNow r g b)) .invalidInput info) := by
  constructor
  · rw [exec, execUset, command_busOpen hf ho, Run.withLight, Run.withSelector_ok s 0 0 _ _ hl, bad,
      Run.write_some, Run.showIf_some, Run.retire_some]
  · rw [exec, execUfill, command_busOpen hf ho, bad, Run.write_some, Run.showIf_some,
      Run.retire_some]

end components

theorem Run.checkLength_out (s : State) {len : W16} (h : len.toNat ≠ 18) :
    Run.checkLength ⟨s, 0, none, 0⟩ len = ⟨s, 0, some ⟨.invalidInput, zext32 len⟩, 0⟩ := by
  have wrong : (len.toNat != nChannel) = true := bne_iff_ne.2 h
  rw [Run.checkLength, wrong, Run.raiseIf_true, Run.raise_none]

/-- Settles O23, operand by operand. -/
theorem outOfRangeOperandsAreRejected : Obligations.OutOfRangeOperandsAreRejected := by
  refine ⟨rfl, rfl, ?_⟩
  intro s hf rejects
  refine ⟨fun m v h => ?motor, fun b v on h => ⟨?_, ?_, ?_⟩, fun slot mask h => ⟨?_, ?_, ?_⟩,
    fun v h => ?enable, fun idx v h => ⟨?_, ?_⟩, fun ho => ⟨fun len h => ⟨?_, ?_⟩,
    fun l sh r g b h => ⟨?_, ?_, ?_⟩, fun l sh r g b hl => ?rgb⟩⟩
  case motor => exact command_selector_out hf (.mset m v) _ _ h
  · exact command_selector_out hf (.bled b v) _ _ h
  · exact command_selector_out hf (.bledb b on) _ _ h
  · exact command_selector_out hf (.bhold b) _ _ h
  · exact command_withSlot_out hf (.bsub slot mask) _ h
  · exact command_withSlot_out hf (.bunsub slot mask) _ h
  · exact command_withSlot_out hf (.back slot mask) _ h
  case enable => exact exec_wr_refused hf (t := .btnEn) rfl (if_pos h)
  · show execStw idx v s = _
    rw [execStw, command_notFatal hf, Run.checkIndex_out h, Run.write_some, Run.retire_some]
    rfl
  · show execStr idx s = _
    rw [execStr, command_notFatal hf, Run.checkIndex_out h, Run.answer_some, Run.retire_some]
    rfl
  · show execSnout len s = _
    rw [execSnout, command_busOpen hf ho, Run.checkLength_out s h, Run.output_some,
      Run.retire_some]
    rfl
  · show execSnoutr len s = _
    rw [execSnoutr, command_busOpen hf ho, Run.checkLength_out s h, Run.output_some,
      Run.retire_some]
    rfl
  · exact command_light_out hf ho (.uset l sh r g b) _ h
  · exact command_light_out hf ho (.uclr l sh) _ h
  · exact command_light_out hf ho (.uhsv l sh r g b) _ h
  case rgb =>
    refine ⟨fun badR => ?_, fun okR badG => ?_, fun okR okG badB => ?_⟩
    · exact exec_badComponent hf ho hl sh
        (Run.checkRgb_eq s r g b (componentOk_eq_false badR) rfl rfl)
    · exact exec_badComponent hf ho hl sh
        (Run.checkRgb_eq s r g b (componentOk_eq_true okR) (componentOk_eq_false badG) rfl)
    · exact exec_badComponent hf ho hl sh
        (Run.checkRgb_eq s r g b (componentOk_eq_true okR) (componentOk_eq_true okG)
          (componentOk_eq_false badB))

end Sys2Proof.Machine

/-! SUPPORT. The gamma table (20_memory.md R63), the outputs of eighteen bytes (42_sn3218.md R207,
R208, 43_underlight.md R234) and the frame (R231 to R242): each command that shows the frame is a
change of FRAME followed by a row of bus writes. Settles the statements O35, O37, O38, O39, O40, O41
and O43. -/

namespace Sys2Proof.Machine

/-! ### The gamma table -/

/-- Cell `i` of GAMMA is round(256^(i/255)) - 1, both sides raised to the power 255 (20_memory.md
R63). -/
abbrev GammaCell (i : Nat) : Prop :=
  (2 * (gamma (BitVec.ofNat 8 i)).toNat + 1) ^ 255 ≤ 2 ^ 255 * 256 ^ i ∧
    2 ^ 255 * 256 ^ i < (2 * (gamma (BitVec.ofNat 8 i)).toNat + 3) ^ 255

theorem gammaCell_firstQuarter : ∀ i : Fin 64, GammaCell i := by decide
theorem gammaCell_secondQuarter : ∀ i : Fin 64, GammaCell (64 + i) := by decide
theorem gammaCell_thirdQuarter : ∀ i : Fin 64, GammaCell (128 + i) := by decide
theorem gammaCell_lastQuarter : ∀ i : Fin 64, GammaCell (192 + i) := by decide

theorem gammaCell {i : Nat} (h : i < 256) : GammaCell i := by
  obtain ⟨j, rfl | rfl | rfl | rfl⟩ :
      ∃ j : Fin 64, i = j ∨ i = 64 + j ∨ i = 128 + j ∨ i = 192 + j :=
    ⟨⟨i % 64, Nat.mod_lt _ (by decide)⟩, by simp only; omega⟩
  · exact gammaCell_firstQuarter j
  · exact gammaCell_secondQuarter j
  · exact gammaCell_thirdQuarter j
  · exact gammaCell_lastQuarter j

/-- The table does not fall: the formula it rounds grows. -/
theorem gamma_le_next {i : Nat} (h : i < 255) :
    (gamma (BitVec.ofNat 8 i)).toNat ≤ (gamma (BitVec.ofNat 8 (i + 1))).toNat := by
  obtain ⟨atLeast, -⟩ := gammaCell (i := i) (by omega)
  obtain ⟨-, below⟩ := gammaCell (i := i + 1) (by omega)
  by_contra falls
  have powers : (2 * (gamma (BitVec.ofNat 8 (i + 1))).toNat + 3) ^ 255 ≤
      (2 * (gamma (BitVec.ofNat 8 i)).toNat + 1) ^ 255 := Nat.pow_le_pow_left (by omega) 255
  have grows : 2 ^ 255 * 256 ^ i ≤ 2 ^ 255 * 256 ^ (i + 1) :=
    Nat.mul_le_mul_left _ (Nat.pow_le_pow_right (by decide) (Nat.le_succ i))
  exact absurd (below.trans_le (powers.trans atLeast)) (Nat.not_lt.2 grows)

/-- Settles O37: the cells of the fixed table, and the rest from the formula. -/
theorem gammaTableIsTheFormula : Obligations.GammaTableIsTheFormula :=
  ⟨fun i => gammaCell i.isLt, fun i => gamma_le_next i.isLt, by decide, rfl, rfl, rfl⟩

/-! ### Rows of writes -/

theorem State.bytes18_stage (s : State) :
    s.bytes18 .stage = (List.range 18).map s.stage.read := rfl

theorem State.bytes18_frame_gamma (s : State) :
    (s.bytes18 .frame).map gamma = (List.range 18).map fun i => gamma (s.frame.read i) :=
  List.map_map

/-- A show is a row of three writes (43_underlight.md R233). -/
theorem Run.showFrame_eq (s : State) (k : Nat) (v : W32) : Run.showFrame ⟨s, k, none, v⟩ =
    (showWrites s.cfg s.frame.read).foldl Run.i2c ⟨s, k, none, v⟩ := by
  rw [Run.showFrame, Run.andThen_none, State.bytes18_frame_gamma, Run.output]
  rfl

theorem Run.checkLength_ok (s : State) :
    Run.checkLength ⟨s, 0, none, 0⟩ 18 = ⟨s, 0, none, 0⟩ := rfl

/-- Settles O35: the three commands are rows of writes (`exec_i2cs`). -/
theorem outputCommandsSendEighteenBytes : Obligations.OutputCommandsSendEighteenBytes := by
  refine ⟨rfl, rfl, rfl, ?_⟩
  intro s hf ho sends update
  refine ⟨?_, ?_, ?_⟩
  · have pseudocode : exec (.snout 18) s = command (.snout 18) [notFatal, busOpen]
        (fun r => (r.checkLength 18).output ((r.state.bytes18 .stage).map gamma)) s := rfl
    refine exec_i2cs hf ho pseudocode ?_
    rw [Run.checkLength_ok, State.bytes18_stage, List.map_map, Run.output]
    rfl
  · have pseudocode : exec (.snoutr 18) s = command (.snoutr 18) [notFatal, busOpen]
        (fun r => (r.checkLength 18).output (r.state.bytes18 .stage)) s := rfl
    refine exec_i2cs hf ho pseudocode ?_
    rw [Run.checkLength_ok, State.bytes18_stage, Run.output]
    rfl
  · exact exec_i2cs hf ho (i := .ushow) rfl (Run.showFrame_eq s 0 0)

/-! ### Construction and teardown -/

theorem encode_uinit : encode .uinit = 0x4000000000000000 := by decide

/-- A row of writes that is released on a failure, all answered ok or cut at the first failure
(43_underlight.md R231). -/
theorem Run.i2cs_release (s : State) (writes : List (List Byte)) :
    (s.AnswersOk writes.length →
      (writes.foldl Run.i2c ⟨s, 0, none, 0⟩).releaseOnFailure =
        ⟨s.busMade writes, writes.length, none, 0⟩) ∧
    ∀ k < writes.length, s.FailsAt k →
      (writes.foldl Run.i2c ⟨s, 0, none, 0⟩).releaseOnFailure =
        ⟨({ s with i2cOpen := false } : State).busFailed writes k, k,
          some ⟨.transportFailure, BitVec.ofNat 32 k⟩, 0⟩ := by
  refine ⟨fun oks => ?_, fun k hk fails => ?_⟩
  · rw [Run.i2cs_ok writes s 0 0 oks, Nat.zero_add]
    rfl
  · rw [Run.i2cs_fail writes s 0 k 0 hk fails, Nat.zero_add]
    rfl

/-- Settles O38. -/
theorem constructionOpensTheBusOrReleasesIt : Obligations.ConstructionOpensTheBusOrReleasesIt := by
  refine ⟨encode_uinit, fun s hf => ⟨fun opened => ?_, fun closed => ?_⟩⟩
  · exact (stateChecksRefuseTheCommand s .uinit hf).2.1 rfl opened
  · obtain ⟨f', changed, cleared⟩ := ({ s with i2cOpen := true } : State).clearFrame_spec
    have admitted : firstFailure [notFatal, busClosed] s = none :=
      (firstFailure_cons_none (notFatal_none hf)).trans
        (firstFailure_cons_none (busClosed_none closed))
    have run : exec .uinit s = .next
        (((([[s.cfg.cmdReset, s.cfg.rstData], maskBytes s.cfg 0x3FFFF,
          [s.cfg.cmdUpdate, s.cfg.updData], [s.cfg.cmdEnable, s.cfg.disData]].foldl Run.i2c
            ⟨{ s with i2cOpen := true, frame := f' }, 0, none, 0⟩).releaseOnFailure).retire
              (encode .uinit))) := by
      rw [exec, execUinit, command_admitted admitted, Run.write_none, changed]
      rfl
    obtain ⟨made, cut⟩ := Run.i2cs_release { s with i2cOpen := true, frame := f' }
      [[s.cfg.cmdReset, s.cfg.rstData], maskBytes s.cfg 0x3FFFF,
        [s.cfg.cmdUpdate, s.cfg.updData], [s.cfg.cmdEnable, s.cfg.disData]]
    refine ⟨f', cleared, fun oks => ?_, fun k hk fails => ?_⟩
    · rw [run, made oks, Run.retire_none]
      rfl
    · rw [run, cut k hk fails, Run.retire_some]
      rfl

/-- One attempt of the teardown, whatever the answer (43_underlight.md R232). -/
theorem State.tryWrites_cons (s : State) (w : List Byte) (rest : List (List Byte)) (k : Nat) :
    s.tryWrites (w :: rest) k =
      let a := s.answerAt s.env.asked
      let q := State.tryWrites
        { s with trace := s.trace ++ [busEntry s.cfg a w],
                 env := { s.env with asked := s.env.asked + 1 } } rest (k + 1)
      (q.1, q.2 + if a = .fail then 2 ^ k else 0) := rfl

theorem State.tryWrites_nil (s : State) (k : Nat) : s.tryWrites [] k = (s, 0) := rfl

/-- The four attempts of UFINI, with their answers. -/
theorem State.tryWrites_four (s : State) {a0 a1 a2 a3 : Answer} (w0 w1 w2 w3 : List Byte)
    (h0 : s.answerAt s.env.asked = a0) (h1 : s.answerAt (s.env.asked + 1) = a1)
    (h2 : s.answerAt (s.env.asked + 2) = a2) (h3 : s.answerAt (s.env.asked + 3) = a3) :
    s.tryWrites [w0, w1, w2, w3] 0 =
      ({ s with trace := s.trace ++ [busEntry s.cfg a0 w0, busEntry s.cfg a1 w1,
                           busEntry s.cfg a2 w2, busEntry s.cfg a3 w3],
                env := { s.env with asked := s.env.asked + 4 } },
        (if a0 = .fail then 2 ^ 0 else 0) + (if a1 = .fail then 2 ^ 1 else 0) +
          (if a2 = .fail then 2 ^ 2 else 0) + (if a3 = .fail then 2 ^ 3 else 0)) := by
  subst h0 h1 h2 h3
  have bits (a b c d : Nat) : 0 + d + c + b + a = a + b + c + d := by omega
  simp only [State.tryWrites_cons, State.tryWrites_nil, List.append_assoc, List.cons_append,
    List.nil_append]
  rw [bits]
  rfl

/-- Settles O39: the four answers make the trace and the mask. -/
theorem teardownAttemptsEveryWrite : Obligations.TeardownAttemptsEveryWrite := by
  refine ⟨by decide, fun s a0 a1 a2 a3 hf => ⟨fun closed => ?_, fun ho h0 h1 h2 h3 => ?_⟩⟩
  · exact exec_notOpen hf (.inl (by simp)) closed
  · obtain ⟨f', changed, cleared⟩ := s.clearFrame_spec
    refine ⟨f', cleared, ?_⟩
    intro t bit f
    have attempts := ({ s with frame := f' } : State).tryWrites_four
      (s.cfg.cmdSetval :: List.replicate 18 0) [s.cfg.cmdUpdate, s.cfg.updData]
      [s.cfg.cmdEnable, s.cfg.enData] [s.cfg.cmdEnable, s.cfg.disData] h0 h1 h2 h3
    have run : exec .ufini s = .next
        ((Run.raiseIf ⟨t, 0, none, 0⟩ (f != 0)
          ⟨.transportFailure, BitVec.ofNat 32 f⟩).retire (encode .ufini)) := by
      rw [exec, execUfini, command_busOpen hf ho]
      simp only [Run.write_none, changed]
      rw [show finiWrites s.cfg = [_, _, _, _] from rfl]
      exact congrArg (fun p : State × Nat => Host.Outcome.next ((Run.raiseIf
        ⟨{ p.1 with i2cOpen := false }, 0, none, 0⟩ (p.2 != 0)
          ⟨.transportFailure, BitVec.ofNat 32 p.2⟩).retire (encode .ufini))) attempts
    refine ⟨fun none => ?_, fun some => ?_⟩
    · rw [run, none]
      rfl
    · rw [run, bne_iff_ne.2 some, Run.raiseIf_true, Run.raise_none, Run.retire_some]

/-! ### Setters -/

section setters
variable {s : State} (hf : s.err.fatal = false) (ho : s.i2cOpen = true) (sh : Bool)

/-- A byte is a legal component (43_underlight.md R235). -/
theorem componentOk_byte (c : Byte) : componentOk (c.setWidth 16) = true := by
  have value : (c.setWidth 16).toInt = c.toNat := by
    have := c.isLt
    rw [BitVec.toInt_eq_toNat_of_lt (by rw [BitVec.toNat_setWidth]; omega), BitVec.toNat_setWidth,
      Nat.mod_eq_of_lt (by omega)]
  have := c.isLt
  exact componentOk_eq_true (by omega)

theorem componentByte_byte (c : Byte) : componentByte (c.setWidth 16) = c := by
  rw [componentByte, BitVec.setWidth_setWidth_of_le _ (by decide), BitVec.setWidth_eq]

theorem Run.checkRgb_bytes (s : State) (r g b : Byte) :
    Run.checkRgb ⟨s, 0, none, 0⟩ (r.setWidth 16) (g.setWidth 16) (b.setWidth 16) =
      ⟨s, 0, none, 0⟩ :=
  Run.checkRgb_eq s _ _ _ (componentOk_byte r) (componentOk_byte g) (componentOk_byte b)

/-- A conditional show with its writes answered ok. -/
theorem Run.showIf_ok (s : State) (sh : Bool) (oks : sh = true → s.AnswersOk 3) :
    Run.showIf ⟨s, 0, none, 0⟩ sh =
      ⟨s.busMade (showWritesIf sh s.cfg s.frame.read), (showWritesIf sh s.cfg s.frame.read).length,
        none, 0⟩ := by
  cases sh with
  | false =>
    have noWrites : showWritesIf false s.cfg s.frame.read = [] := rfl
    rw [noWrites, State.busMade, List.map_nil, List.append_nil]
    rfl
  | true =>
    rw [Run.showIf, if_pos rfl, Run.showFrame_eq,
      Run.i2cs_ok (showWrites s.cfg s.frame.read) s 0 0 (oks rfl), Nat.zero_add]
    rfl

/-- A show cut at its first failing write. -/
theorem Run.showIf_fails (s : State) {k : Nat} (hk : k < 3) (fails : s.FailsAt k) :
    Run.showIf ⟨s, 0, none, 0⟩ true =
      ⟨s.busFailed (showWrites s.cfg s.frame.read) k, k,
        some ⟨.transportFailure, BitVec.ofNat 32 k⟩, 0⟩ := by
  rw [Run.showIf, if_pos rfl, Run.showFrame_eq,
    Run.i2cs_fail (showWrites s.cfg s.frame.read) s 0 k 0 hk fails, Nat.zero_add]

/-- What a setter does after its checks: the frame is `f'`, and it is shown if asked; `value` is the
answer. -/
def Setter (i : Instr) (s : State) (sh : Bool) (f' : Memory) (value : W32) : Prop :=
  exec i s = .next (((Run.showIf ⟨{ s with frame := f' }, 0, none, 0⟩ sh).answer
    fun _ => value).retire (encode i))

/-- The show of a setter answered ok. -/
theorem Setter.shown {i : Instr} {f' : Memory} {value : W32} (h : Setter i s sh f' value)
    (oks : sh = true → s.AnswersOk 3) : exec i s =
      .next ((({ s with frame := f' } : State).busMade
        (showWritesIf sh s.cfg f'.read)).afterOk value) := by
  rw [Setter, Run.showIf_ok { s with frame := f' } sh oks] at h
  exact h

/-- The show of a setter cut at write `k`. -/
theorem Setter.cut {i : Instr} {f' : Memory} {value : W32} (h : Setter i s true f' value) {k : Nat}
    (hk : k < 3) (fails : s.FailsAt k) : exec i s =
      .next ((({ s with frame := f' } : State).busFailed (showWrites s.cfg f'.read) k).afterError
        (encode i) .transportFailure (BitVec.ofNat 32 k)) := by
  rw [Setter, Run.showIf_fails { s with frame := f' } hk fails, Run.answer_some,
    Run.retire_some] at h
  exact h

/-- A show leaves the answer 0. -/
theorem Run.showIf_answer_zero (s : State) (sh : Bool) :
    (Run.showIf ⟨s, 0, none, 0⟩ sh).answer (fun _ => 0) = Run.showIf ⟨s, 0, none, 0⟩ sh := by
  have value (r : Run) (h : r.value = 0) : (r.answer fun _ => 0) = r := by
    obtain ⟨s, k, f, v⟩ := r
    cases f with
    | none => rw [Run.answer_none]; exact congrArg _ h.symm
    | some f => rfl
  have leaf (r : Run) (op : LeafOp) : (r.leaf op).value = r.value := by
    rcases r.leaf_cases op with ⟨-, e⟩ | ⟨-, -, e⟩ | ⟨-, -, e⟩ <;> rw [e]
  refine value _ ?_
  cases sh with
  | false => rfl
  | true =>
    rw [Run.showIf, if_pos rfl, Run.showFrame_eq]
    exact (leaf _ _).trans ((leaf _ _).trans (leaf _ _))

include hf ho

theorem exec_uset_setter {l : BitVec 4} (hl : l.toNat < 6) (r g b : Byte) :
    ∃ f', LightWritten s.frame f' l.toNat r g b ∧
      Setter (.uset l sh (r.setWidth 16) (g.setWidth 16) (b.setWidth 16)) s sh f' 0 := by
  obtain ⟨f', changed, written⟩ := s.setLight_spec ⟨l.toNat, hl⟩ r g b
  refine ⟨f', written, ?_⟩
  rw [Setter, Run.showIf_answer_zero, exec, execUset, command_busOpen hf ho, Run.withLight,
    Run.withSelector_ok s 0 0 _ _ hl, Run.checkRgb_bytes, Run.write_none]
  simp only [componentByte_byte, changed]

theorem exec_uclr_setter {l : BitVec 4} (hl : l.toNat < 6) :
    ∃ f', LightWritten s.frame f' l.toNat 0 0 0 ∧ Setter (.uclr l sh) s sh f' 0 := by
  obtain ⟨f', changed, written⟩ := s.setLight_spec ⟨l.toNat, hl⟩ 0 0 0
  refine ⟨f', written, ?_⟩
  rw [Setter, Run.showIf_answer_zero, exec, execUclr, command_busOpen hf ho, Run.withLight,
    Run.withSelector_ok s 0 0 _ _ hl, Run.write_none, changed]

theorem exec_ufill_setter (r g b : Byte) :
    ∃ f', AllLightsWritten s.frame f' r g b ∧
      Setter (.ufill sh (r.setWidth 16) (g.setWidth 16) (b.setWidth 16)) s sh f' 0 := by
  obtain ⟨f', changed, written⟩ := s.setAllLights_spec r g b
  refine ⟨f', written, ?_⟩
  rw [Setter, Run.showIf_answer_zero, exec, execUfill, command_busOpen hf ho, Run.checkRgb_bytes,
    Run.write_none]
  simp only [componentByte_byte, changed]

theorem exec_uclrall_setter :
    ∃ f', AllLightsWritten s.frame f' 0 0 0 ∧ Setter (.uclrall sh) s sh f' 0 := by
  obtain ⟨f', changed, written⟩ := s.setAllLights_spec 0 0 0
  refine ⟨f', written, ?_⟩
  rw [Setter, Run.showIf_answer_zero, exec, execUclrall, command_busOpen hf ho, Run.write_none,
    changed]

theorem exec_uhsv_setter {l : BitVec 4} (hl : l.toNat < 6) (h sat v : W16) :
    ∃ f', LightWritten s.frame f' l.toNat (hsvToRgb h sat v).1 (hsvToRgb h sat v).2.1
        (hsvToRgb h sat v).2.2 ∧
      Setter (.uhsv l sh h sat v) s sh f' (rgbValue (hsvToRgb h sat v)) := by
  obtain ⟨f', changed, written⟩ := s.setLight_spec ⟨l.toNat, hl⟩ (hsvToRgb h sat v).1
    (hsvToRgb h sat v).2.1 (hsvToRgb h sat v).2.2
  refine ⟨f', written, ?_⟩
  rw [Setter, exec, execUhsv, command_busOpen hf ho, Run.withLight,
    Run.withSelector_ok s 0 0 _ _ hl]
  simp only [Run.write_none, changed]

theorem exec_ufillhsv_setter (h sat v : W16) :
    ∃ f', AllLightsWritten s.frame f' (hsvToRgb h sat v).1 (hsvToRgb h sat v).2.1
        (hsvToRgb h sat v).2.2 ∧
      Setter (.ufillhsv sh h sat v) s sh f' (rgbValue (hsvToRgb h sat v)) := by
  obtain ⟨f', changed, written⟩ := s.setAllLights_spec (hsvToRgb h sat v).1
    (hsvToRgb h sat v).2.1 (hsvToRgb h sat v).2.2
  refine ⟨f', written, ?_⟩
  rw [Setter, exec, execUfillhsv, command_busOpen hf ho]
  simp only [Run.write_none, changed]

end setters

/-- Settles O40: four setters, shown. -/
theorem settersWriteTheirLightsAndShow : Obligations.SettersWriteTheirLightsAndShow := by
  intro s sh r g b hf ho oks shown
  refine ⟨fun l hl => ⟨?_, ?_⟩, ?_, ?_⟩
  · obtain ⟨f', written, setter⟩ := exec_uset_setter hf ho sh hl r g b
    exact ⟨f', written, setter.shown sh oks⟩
  · obtain ⟨f', written, setter⟩ := exec_uclr_setter hf ho sh hl
    exact ⟨f', written, setter.shown sh oks⟩
  · obtain ⟨f', written, setter⟩ := exec_ufill_setter hf ho sh r g b
    exact ⟨f', written, setter.shown sh oks⟩
  · obtain ⟨f', written, setter⟩ := exec_uclrall_setter hf ho sh
    exact ⟨f', written, setter.shown sh oks⟩

/-- The answer of the HSV setters is the number of the triple (43_underlight.md R241). -/
theorem rgbValue_eq (p : Byte × Byte × Byte) : rgbValue p =
    BitVec.ofNat 32 (p.1.toNat * 65536 + p.2.1.toNat * 256 + p.2.2.toNat) := by
  obtain ⟨r, g, b⟩ := p
  have hr := r.isLt
  have hg := g.isLt
  have hb := b.isLt
  have top : (0 : Byte).toNat <<< 8 ||| r.toNat = r.toNat := by
    rw [show (0 : Byte).toNat = 0 from rfl, Nat.zero_shiftLeft, Nat.zero_or]
  apply BitVec.eq_of_toNat_eq
  simp only [rgbValue, BitVec.toNat_append, BitVec.toNat_ofNat, top]
  rw [← Nat.shiftLeft_add_eq_or_of_lt hg, ← Nat.shiftLeft_add_eq_or_of_lt hb, Nat.shiftLeft_eq,
    Nat.shiftLeft_eq, Nat.mod_eq_of_lt (by omega)]
  omega

/-- Settles O41: two setters, shown, with the triple as their answer. -/
theorem hsvSettersWriteTheTriple : Obligations.HsvSettersWriteTheTriple := by
  intro s sh h sat v hf ho oks p answer shown
  have value : rgbValue p = answer := rgbValue_eq p
  refine ⟨fun l hl => ?_, ?_⟩
  · obtain ⟨f', written, setter⟩ := exec_uhsv_setter hf ho sh hl h sat v
    exact ⟨f', written, (setter.shown sh oks).trans (by rw [value])⟩
  · obtain ⟨f', written, setter⟩ := exec_ufillhsv_setter hf ho sh h sat v
    exact ⟨f', written, (setter.shown sh oks).trans (by rw [value])⟩

/-- Settles O43: six setters, each cut at the write that fails. -/
theorem failedShowKeepsTheFrame : Obligations.FailedShowKeepsTheFrame := by
  intro s r g b h sat v k hf ho hk fails p cut
  refine ⟨fun l hl => ⟨?_, ?_, ?_⟩, ?_, ?_, ?_⟩
  · obtain ⟨f', written, setter⟩ := exec_uset_setter hf ho true hl r g b
    exact ⟨f', written, setter.cut hk fails⟩
  · obtain ⟨f', written, setter⟩ := exec_uclr_setter hf ho true hl
    exact ⟨f', written, setter.cut hk fails⟩
  · obtain ⟨f', written, setter⟩ := exec_uhsv_setter hf ho true hl h sat v
    exact ⟨f', written, setter.cut hk fails⟩
  · obtain ⟨f', written, setter⟩ := exec_ufill_setter hf ho true r g b
    exact ⟨f', written, setter.cut hk fails⟩
  · obtain ⟨f', written, setter⟩ := exec_uclrall_setter hf ho true
    exact ⟨f', written, setter.cut hk fails⟩
  · obtain ⟨f', written, setter⟩ := exec_ufillhsv_setter hf ho true h sat v
    exact ⟨f', written, setter.cut hk fails⟩

end Sys2Proof.Machine
